-- ==== Sys2Proof/Word.lean ====
section
/-! DEFINITION. The words of the OpenMetra protocol block (spec/00_scope.md R9, R12; spec/10_state.md R20, R21):
its byte widths, and what one step reads: an event, the `owner` input sampled with it, and the place the block is at. -/

namespace Sys2Proof

/-- A physical byte: 8 bits on the wire (R14, R50). -/
abbrev Byte := BitVec 8

/-- A logical byte: the 6 bits a protocol byte carries (R7 LOGICAL_WIDTH, R14). -/
abbrev Logical := BitVec 6

/-- A nibble, 0..15 (R9). -/
abbrev Nibble := BitVec 4

/-- A text: a sequence of abstract characters (R11, R156). -/
abbrev Text := List Char

/-- The five values of the decoder's sequencing register `st` (R20). -/
inductive Phase where
  | awaitStart
  | statusBytes
  | digitsSlow
  | digitsFast
  | trailingFields
  deriving DecidableEq, Repr

/-- The consumer an event goes to: the `owner` input (R65). -/
inductive Owner where
  | decoder
  | response
  deriving DecidableEq, Repr

/-- The three classes of a masked byte (R70). -/
inductive ByteClass where
  | dev
  | fast
  | other
  deriving DecidableEq, Repr

/-- Where the block reads its next event: the two sequencing registers of the decoder and the receiver's count
(R21, R33). With the byte class it selects the operation (R102, R181, R182). -/
structure Position where
  st : Phase
  k : BitVec 3
  rcnt : BitVec 4
  deriving DecidableEq, Repr

/-- The event a step consumes (R12), and the requests by which the host invokes the pure functions that
spec/opcode_table.json gives rows of their own (DESIGN CHOICE, log 13). The operands of `encode` are integers, since
R175 speaks of values of 64 and more. -/
inductive Event where
  | byte (b : Byte)
  | timeout
  | abort
  | encode (cmd : Nat) (params : List Nat)
  | contract (p : Vector Byte 42)
  | checksumSub (l : Vector Logical 13)
  | checksumAdd (l : Vector Logical 13)
  | expand (l : Vector Logical 14)
  | pair (q : BitVec 2)
  | unitCorrect (fc : Byte) (dpRaw : BitVec 3)
  | format (d : List Logical) (dp : Int) (sgn ovl : Bool)
  deriving DecidableEq, Repr

/-- One event as it arrives, with the `owner` input sampled with it (R65). -/
structure Input where
  owner : Owner
  event : Event
  deriving DecidableEq, Repr

end Sys2Proof
end

