-- ==== Sys2Proof/Config.lean ====
section
/-! DEFINITION. The configuration parameters of spec/00_scope.md R8 (the analog of control registers, spec/10_state.md
R35): static for a run, held in State as data and never written by a step. Beside them stand the two free values of
the model, constants without a body. -/

namespace Sys2Proof

/-- CHECKSUM (R8, R172). -/
inductive ChecksumRule where
  | sub
  | add
  deriving DecidableEq, Repr

/-- NIBBLE_ORDER (R8, R81). -/
inductive NibbleOrder where
  | lowbitLownib
  | lowbitHighnib
  deriving DecidableEq, Repr

/-- A correction kind of DP_CORRECTION: Id, Add(k), Const(c) (R8, R142). -/
inductive Correction where
  | id
  | add (d : Int)
  | const (c : Int)
  deriving DecidableEq, Repr

/-- The six StatusFlags of the special field (R14, R32). -/
inductive StatusFlag where
  | manualRange
  | dataHold
  | zero
  | beep
  | lowBattery
  | fuse
  deriving DecidableEq, Repr

/-- The six function codes R144 names, whose numbers the spec leaves open (N2): part of the configuration
(DESIGN CHOICE, log 9). -/
structure NamedCodes where
  i1 : BitVec 5
  i2 : BitVec 5
  c : BitVec 5
  dB : BitVec 5
  p1 : BitVec 5
  p2 : BitVec 5
  deriving DecidableEq, Repr

/-- One named field of a response layout and the frame offsets it takes (DESIGN CHOICE, log 22: the spec gives a
layout no form, and no rule looks inside one). -/
structure LayoutField where
  name : Text
  offsets : List (Fin 14)
  deriving DecidableEq, Repr

/-- The field layout of a response (RESP_LAYOUT, R8, R184). -/
abbrev Layout := List LayoutField

/-- Every parameter of R8, in its order. A partial map is a list of its entries, the first entry of a key counting. -/
structure Config where
  deviceCodes : List Logical
  checksumRule : ChecksumRule
  nibbleOrder : NibbleOrder
  addrFlags : Logical
  mark1 : Logical
  mark2 : Logical
  fill : Logical
  /-- CMD_STATUS and CMD_MEASURE: read by no pseudocode, so `none` says the host supplied none (log 20). -/
  cmdStatus : Option Logical
  cmdMeasure : Option Logical
  respLayout : List (Logical × Layout)
  /-- UNIT_LABEL but for the known entry 0x01, which R143 fixes (log 16). -/
  unitLabel : List (BitVec 5 × Text)
  /-- FALLBACK_LABEL for the codes listed; for any other code the label is a free value (log 11). -/
  fallbackLabel : List (Byte × Text)
  /-- DP_CORRECTION but for the known entry 0x01: the stated corrections; every other code is Id (R144). -/
  correction : List (BitVec 5 × Correction)
  named : NamedCodes
  /-- FLAG_MAP: which bit of the special field holds a flag, as far as the host knows it (log 20). -/
  flagMap : List (StatusFlag × Fin 8)
  /-- Host only, read by no rule (R8, D35). -/
  timeoutWindow : Option Nat
  preDelay : Option Nat
  deriving DecidableEq, Repr

/-- FREE VALUE: the fallback label of a code the configuration lists none for. The spec says only that it is "formed
from the raw code value" (R141, N3). Nothing in Lean can prove a value of it (log 11). -/
opaque Config.freeFallbackLabel : Byte → Text

/-- FREE VALUE: the character FORMAT prints for a digit value above 9 when `ovl` is 0. R150 gives `chr_digit` on 0..9
only (log 12). -/
opaque Config.freeDigitChar : Logical → Char

/-- The configuration a run starts with unless the host gives another: R8's defaults, and for what R8 leaves OPEN the
default configuration of spec/95_test_vectors.md (logs 8, 9, 10). No statement rests on these values. -/
def Config.default : Config where
  deviceCodes := [0x0E#6]
  checksumRule := .sub
  nibbleOrder := .lowbitLownib
  addrFlags := 0x00#6
  mark1 := 0x2B#6
  mark2 := 0x3F#6
  fill := 0x00#6
  cmdStatus := none
  cmdMeasure := none
  respLayout := []
  unitLabel := []
  fallbackLabel := []
  correction :=
    [(0x1A#5, .add 1), (0x1B#5, .add 1), (0x1C#5, .add 1), (0x1D#5, .const 3), (0x1E#5, .add (-2)),
      (0x1F#5, .add (-2))]
  named := { i1 := 0x1A#5, i2 := 0x1B#5, c := 0x1C#5, dB := 0x1D#5, p1 := 0x1E#5, p2 := 0x1F#5 }
  flagMap := []
  timeoutWindow := none
  preDelay := none

end Sys2Proof
end

