-- ==== Sys2Proof/Machine/Operands.lean ====
section
/-! DEFINITION. The operand forms of the block: masking, the byte classes, and the fields of a masked byte
(spec/20_memory.md R51, R57; spec/30_encoding.md R70, R75; spec/40_frame_decoder.md R100; spec/41_value_assembly.md
R140). Every meaning, the decoder and the well-formedness check read bits through these functions only. -/

namespace Sys2Proof.Machine

/-- Input masking, `m = b & 0x3F` (R51). -/
def maskByte (b : Byte) : Logical := b.setWidth 6

/-- IsDev(m) (R100). -/
def isDev (codes : List Logical) (m : Logical) : Bool := decide (m ∈ codes)

/-- IsFast(m): bits 5:4 are 0b01 (R100). -/
def isFast (m : Logical) : Bool := m.extractLsb' 4 2 == 0b01#2

/-- IsStart(m) (R100). -/
def isStart (codes : List Logical) (m : Logical) : Bool := isDev codes m || isFast m

/-- The class of a masked byte (R70). DEV and FAST never overlap under a configuration that R222 admits. -/
def byteClass (codes : List Logical) (m : Logical) : ByteClass :=
  if isDev codes m then .dev else if isFast m then .fast else .other

/-- Bits 3:0 of a masked byte: the field of a status byte and of fc-hi (R54, R106). -/
def lowNibble (m : Logical) : Nibble := m.setWidth 4

/-- The decimal position: bits 2:0 (R75). -/
def dpField (m : Logical) : BitVec 3 := m.setWidth 3

/-- The sign: bit 3, 1 meaning negative (R75). -/
def signField (m : Logical) : Bool := m.getLsbD 3

/-- The range/sign nibble: the sign at bit 3, the position at bits 2:0 (R75). -/
def rangeNibble (sgn : Bool) (dp : BitVec 3) : Nibble := BitVec.ofBool sgn ++ dp

/-- A fast candidate: bits 5:4 = 0b01 over a range/sign nibble (R77). -/
def fastCandidate (sgn : Bool) (dp : BitVec 3) : Logical := 0b01#2 ++ rangeNibble sgn dp

/-- The special field: special-1 is the high nibble (R57). -/
def specialField (sp1 sp2 : Nibble) : Byte := sp1 ++ sp2

/-- Fc(lo, hi) (R140). -/
def functionCode (lo hi : Nibble) : Byte := hi ++ lo

/-- KnownFc: defined when both nibbles have been received (R140). -/
def knownFunctionCode (lo hi : Option Nibble) : Option Byte :=
  match lo, hi with
  | some l, some h => some (functionCode l h)
  | _, _ => none

/-- The digit counts FORMAT takes: n in 5, 6 (R150). -/
def formatCount (d : List Logical) : Bool := decide (d.length = 5 ∨ d.length = 6)

/-- The value of the first entry of a key: how a partial map of the configuration is read. -/
def lookupFirst {α β : Type} [DecidableEq α] (l : List (α × β)) (a : α) : Option β :=
  match l with
  | [] => none
  | (a', b) :: rest => if a' = a then some b else lookupFirst rest a

end Sys2Proof.Machine
end

