-- ==== Sys2Proof/Machine/Flags.lean ====
section
/-! DEFINITION. The flags of the block (spec/10_state.md R26, R32): overload, and the six status flags of the special
field as FLAG_MAP places them. The block has no condition codes, and the sign is a field (Operands.lean). -/

namespace Sys2Proof.Machine

/-- An overload digit: a masked value of 10 or more (R76). -/
def overloadDigit (m : Logical) : Bool := decide (10 ≤ m.toNat)

/-- `ovl or (m >= 10)`: the overload flag after a digit (R111, R112, R116, R117). -/
def overloadAfter (ovl : Bool) (m : Logical) : Bool := ovl || overloadDigit m

/-- Some digit of the sequence is an overload digit (R149). -/
def anyOverload (d : List Logical) : Bool := d.any overloadDigit

/-- A status flag of a special field, where FLAG_MAP places it (R32). Interpretation only: no operation reads it
(R35), and a flag the host has not placed has no reading (log 20). -/
def statusFlag (cfg : Config) (special : Byte) (f : StatusFlag) : Option Bool :=
  (lookupFirst cfg.flagMap f).map fun i => special.getLsbD i.val

end Sys2Proof.Machine
end

