-- ==== Sys2Proof/Syntax.lean ====
section
/-! DEFINITION. The operations of the block: one constructor per row of spec/opcode_table.json, its operands the row's
"source_fields". A decoder row is a (state, byte class) pair (spec/30_encoding.md, spec/40_frame_decoder.md R102); the
operands are the fields the rule uses, pulled out of the masked byte by the decoder. -/

namespace Sys2Proof

/-- One operation of the block. -/
inductive Instr where
  /-- AWAIT.DEV (R103): a device-code byte starts a slow frame or setting block. -/
  | awaitDev (m : Logical)
  /-- AWAIT.FAST (R104): a fast-data candidate starts a fast frame. -/
  | awaitFast (sgn : Bool) (dp : BitVec 3)
  /-- AWAIT.SKIP (R105): a byte that is no start condition is discarded. -/
  | awaitSkip (m : Logical)
  /-- STATUS.FCLO (R106). -/
  | statusFclo (fclo : Nibble)
  /-- STATUS.SP1 (R107). -/
  | statusSp1 (sp1 : Nibble)
  /-- STATUS.SP2 (R108). -/
  | statusSp2 (sp2 : Nibble)
  /-- STATUS.RANGE (R109). -/
  | statusRange (sgn : Bool) (dp : BitVec 3)
  /-- LOOK.SETTING.DEV (R110): a device code at the lookahead ends a setting block. -/
  | lookSettingDev (m : Logical)
  /-- LOOK.SETTING.FAST (R110): a fast candidate at the lookahead ends a setting block. -/
  | lookSettingFast (sgn : Bool) (dp : BitVec 3)
  /-- LOOK.DIGIT (R111): the lookahead byte is the first slow digit. -/
  | lookDigit (digit : Logical)
  /-- SLOW.DIGIT (R112). -/
  | slowDigit (digit : Logical)
  /-- SLOW.RESYNC.DEV (R113). -/
  | slowResyncDev (m : Logical)
  /-- SLOW.RESYNC.FAST (R113). -/
  | slowResyncFast (sgn : Bool) (dp : BitVec 3)
  /-- TRAIL.FCHI (R114). -/
  | trailFchi (fchi : Nibble)
  /-- TRAIL.RATE (R115). -/
  | trailRate (rate : Logical)
  /-- FAST.DIGIT (R116). -/
  | fastDigit (digit : Logical)
  /-- FAST.LAST (R117). -/
  | fastLast (digit : Logical)
  /-- FAST.RESYNC.DEV (R118). -/
  | fastResyncDev (m : Logical)
  /-- FAST.RESYNC.FAST (R118). -/
  | fastResyncFast (sgn : Bool) (dp : BitVec 3)
  /-- DEC.TIMEOUT (R119). -/
  | decTimeout
  /-- DEC.ABORT (R120). -/
  | decAbort
  /-- RESP.BYTE (R181). -/
  | respByte (m : Logical)
  /-- RESP.LAST (R182). -/
  | respLast (m : Logical)
  /-- RESP.TIMEOUT (R185). -/
  | respTimeout
  /-- RESP.ABORT (R185). -/
  | respAbort
  /-- ENCODE (R174, R175). -/
  | encode (cmd : Nat) (params : List Nat)
  /-- CONTRACT (R179). -/
  | contract (p : Vector Byte 42)
  /-- CHECKSUM.SUB (R170). -/
  | checksumSub (l : Vector Logical 13)
  /-- CHECKSUM.ADD (R171). -/
  | checksumAdd (l : Vector Logical 13)
  /-- EXPAND (R176). -/
  | expand (l : Vector Logical 14)
  /-- PAIR_00 (R177). -/
  | pair00
  /-- PAIR_01 (R177). -/
  | pair01
  /-- PAIR_10 (R177). -/
  | pair10
  /-- PAIR_11 (R177). -/
  | pair11
  /-- UNIT_CORRECT (R142). -/
  | unitCorrect (fc : Byte) (dpRaw : BitVec 3)
  /-- FORMAT (R150). -/
  | format (d : List Logical) (dp : Int) (sgn ovl : Bool)
  deriving DecidableEq, Repr

end Sys2Proof
end

