-- ==== Sys2Proof/WellFormed.lean ====
section
/-! DEFINITION. Which operations are well formed: the condition column of spec/opcode_table.json on the operands. The
byte class depends on DEVICE_CODES (spec/30_encoding.md R70), so the check takes the set. -/

namespace Sys2Proof

/-- The operands satisfy the row's condition: a DEV row carries a device code, an OTHER row no start condition, and
FORMAT five or six digits. The operands of the other rows are fields that no condition limits. -/
def Instr.wellFormed (codes : List Logical) : Instr → Bool
  | .awaitDev m => Machine.isDev codes m
  | .awaitFast _ _ => true
  | .awaitSkip m => !Machine.isStart codes m
  | .statusFclo _ => true
  | .statusSp1 _ => true
  | .statusSp2 _ => true
  | .statusRange _ _ => true
  | .lookSettingDev m => Machine.isDev codes m
  | .lookSettingFast _ _ => true
  | .lookDigit d => !Machine.isStart codes d
  | .slowDigit d => !Machine.isStart codes d
  | .slowResyncDev m => Machine.isDev codes m
  | .slowResyncFast _ _ => true
  | .trailFchi _ => true
  | .trailRate _ => true
  | .fastDigit d => !Machine.isStart codes d
  | .fastLast d => !Machine.isStart codes d
  | .fastResyncDev m => Machine.isDev codes m
  | .fastResyncFast _ _ => true
  | .decTimeout => true
  | .decAbort => true
  | .respByte _ => true
  | .respLast _ => true
  | .respTimeout => true
  | .respAbort => true
  | .encode _ _ => true
  | .contract _ => true
  | .checksumSub _ => true
  | .checksumAdd _ => true
  | .expand _ => true
  | .pair00 => true
  | .pair01 => true
  | .pair10 => true
  | .pair11 => true
  | .unitCorrect _ _ => true
  | .format d _ _ _ => Machine.formatCount d

/-- The row's state column: where the block reads this operation (spec/40_frame_decoder.md R102; the response rows by
spec/42_command_codec.md R181, R182; the events and the functions anywhere). -/
def Instr.readAt (p : Position) : Instr → Bool
  | .awaitDev _ => decide (p.st = .awaitStart ∧ p.k = 0)
  | .awaitFast _ _ => decide (p.st = .awaitStart ∧ p.k = 0)
  | .awaitSkip _ => decide (p.st = .awaitStart ∧ p.k = 0)
  | .statusFclo _ => decide (p.st = .statusBytes ∧ p.k = 1)
  | .statusSp1 _ => decide (p.st = .statusBytes ∧ p.k = 2)
  | .statusSp2 _ => decide (p.st = .statusBytes ∧ p.k = 3)
  | .statusRange _ _ => decide (p.st = .statusBytes ∧ p.k = 4)
  | .lookSettingDev _ => decide (p.st = .digitsSlow ∧ p.k = 0)
  | .lookSettingFast _ _ => decide (p.st = .digitsSlow ∧ p.k = 0)
  | .lookDigit _ => decide (p.st = .digitsSlow ∧ p.k = 0)
  | .slowDigit _ => decide (p.st = .digitsSlow ∧ 1 ≤ p.k.toNat ∧ p.k.toNat ≤ 5)
  | .slowResyncDev _ => decide (p.st = .digitsSlow ∧ 1 ≤ p.k.toNat ∧ p.k.toNat ≤ 5)
  | .slowResyncFast _ _ => decide (p.st = .digitsSlow ∧ 1 ≤ p.k.toNat ∧ p.k.toNat ≤ 5)
  | .trailFchi _ => decide (p.st = .trailingFields ∧ p.k = 0)
  | .trailRate _ => decide (p.st = .trailingFields ∧ p.k = 1)
  | .fastDigit _ => decide (p.st = .digitsFast ∧ p.k.toNat ≤ 3)
  | .fastLast _ => decide (p.st = .digitsFast ∧ p.k = 4)
  | .fastResyncDev _ => decide (p.st = .digitsFast ∧ p.k.toNat ≤ 4)
  | .fastResyncFast _ _ => decide (p.st = .digitsFast ∧ p.k.toNat ≤ 4)
  | .decTimeout => true
  | .decAbort => true
  | .respByte _ => decide (p.rcnt.toNat ≤ 12)
  | .respLast _ => decide (p.rcnt = 13)
  | .respTimeout => true
  | .respAbort => true
  | .encode _ _ => true
  | .contract _ => true
  | .checksumSub _ => true
  | .checksumAdd _ => true
  | .expand _ => true
  | .pair00 => true
  | .pair01 => true
  | .pair10 => true
  | .pair11 => true
  | .unitCorrect _ _ => true
  | .format _ _ _ _ => true

end Sys2Proof
end

