-- ==== Sys2Proof/Decode.lean ====
section
/-! DEFINITION. The decoder of the block's words: an event, with the owner sampled with it, read at a position, gives
exactly one operation (spec/40_frame_decoder.md R102; spec/42_command_codec.md R181, R182, R185), or is rejected by
name. After it stands the encoder: the event of an operation, written from the same byte layouts
(spec/30_encoding.md R70, R75, R77). -/

namespace Sys2Proof

open Machine

/-- Why a word is rejected. -/
inductive DecodeError where
  /-- The decoder's (st, k) pair is none of R21's table, so R102 has no row for it. No rule produces such a pair. -/
  | noDecoderRow (st : Phase) (k : BitVec 3)
  /-- The receiver's count is above 13, so neither R181 nor R182 applies. No rule produces such a count. -/
  | noResponseRow (rcnt : BitVec 4)
  /-- A FORMAT request of neither five nor six digits (R150's operands). -/
  | digitCount (n : Nat)
  deriving DecidableEq, Repr

/-- The operation of a masked byte given to the frame decoder: R102's table. -/
def decodeFrameByte (codes : List Logical) (st : Phase) (k : BitVec 3) (m : Logical) : Except DecodeError Instr :=
  match st with
  | .awaitStart =>
    if k = 0 then
      match byteClass codes m with
      | .dev => .ok (.awaitDev m)
      | .fast => .ok (.awaitFast (signField m) (dpField m))
      | .other => .ok (.awaitSkip m)
    else .error (.noDecoderRow st k)
  | .statusBytes =>
    if k = 1 then .ok (.statusFclo (lowNibble m))
    else if k = 2 then .ok (.statusSp1 (lowNibble m))
    else if k = 3 then .ok (.statusSp2 (lowNibble m))
    else if k = 4 then .ok (.statusRange (signField m) (dpField m))
    else .error (.noDecoderRow st k)
  | .digitsSlow =>
    if k = 0 then
      match byteClass codes m with
      | .dev => .ok (.lookSettingDev m)
      | .fast => .ok (.lookSettingFast (signField m) (dpField m))
      | .other => .ok (.lookDigit m)
    else if k.toNat ≤ 5 then
      match byteClass codes m with
      | .dev => .ok (.slowResyncDev m)
      | .fast => .ok (.slowResyncFast (signField m) (dpField m))
      | .other => .ok (.slowDigit m)
    else .error (.noDecoderRow st k)
  | .trailingFields =>
    if k = 0 then .ok (.trailFchi (lowNibble m))
    else if k = 1 then .ok (.trailRate m)
    else .error (.noDecoderRow st k)
  | .digitsFast =>
    if k.toNat ≤ 4 then
      match byteClass codes m with
      | .dev => .ok (.fastResyncDev m)
      | .fast => .ok (.fastResyncFast (signField m) (dpField m))
      | .other => if k = 4 then .ok (.fastLast m) else .ok (.fastDigit m)
    else .error (.noDecoderRow st k)

/-- The operation of a masked byte given to the response receiver (R181, R182). -/
def decodeResponseByte (rcnt : BitVec 4) (m : Logical) : Except DecodeError Instr :=
  if rcnt.toNat ≤ 12 then .ok (.respByte m)
  else if rcnt = 13 then .ok (.respLast m)
  else .error (.noResponseRow rcnt)

/-- The row of one bit pair (R82, R177). -/
def decodePair (q : BitVec 2) : Instr :=
  if q = 0b00#2 then .pair00 else if q = 0b01#2 then .pair01 else if q = 0b10#2 then .pair10 else .pair11

/-- The operation an input selects at a position. -/
def decode (codes : List Logical) (p : Position) (x : Input) : Except DecodeError Instr :=
  match x.event with
  | .byte b =>
    match x.owner with
    | .decoder => decodeFrameByte codes p.st p.k (maskByte b)
    | .response => decodeResponseByte p.rcnt (maskByte b)
  | .timeout =>
    match x.owner with
    | .decoder => .ok .decTimeout
    | .response => .ok .respTimeout
  | .abort =>
    match x.owner with
    | .decoder => .ok .decAbort
    | .response => .ok .respAbort
  | .encode cmd params => .ok (.encode cmd params)
  | .contract p => .ok (.contract p)
  | .checksumSub l => .ok (.checksumSub l)
  | .checksumAdd l => .ok (.checksumAdd l)
  | .expand l => .ok (.expand l)
  | .pair q => .ok (decodePair q)
  | .unitCorrect fc dpRaw => .ok (.unitCorrect fc dpRaw)
  | .format d dp sgn ovl => if formatCount d then .ok (.format d dp sgn ovl) else .error (.digitCount d.length)

/-- A masked byte on the wire, with bits 7:6 clear (R51). -/
def wireByte (m : Logical) : Byte := m.setWidth 8

/-- A nibble field as a masked byte, with bits 5:4 clear (R74). -/
def nibbleByte (n : Nibble) : Byte := n.setWidth 8

/-- A byte given to the frame decoder. -/
def decoderByte (b : Byte) : Input := { owner := .decoder, event := .byte b }

/-- A byte given to the response receiver. -/
def responseByte (b : Byte) : Input := { owner := .response, event := .byte b }

/-- A request for a codec or value function. The owner input has no part in it. -/
def request (e : Event) : Input := { owner := .decoder, event := e }

/-- The input that selects an operation at the positions its row names, with every unused bit 0. -/
def encode : Instr → Input
  | .awaitDev m => decoderByte (wireByte m)
  | .awaitFast sgn dp => decoderByte (wireByte (fastCandidate sgn dp))
  | .awaitSkip m => decoderByte (wireByte m)
  | .statusFclo n => decoderByte (nibbleByte n)
  | .statusSp1 n => decoderByte (nibbleByte n)
  | .statusSp2 n => decoderByte (nibbleByte n)
  | .statusRange sgn dp => decoderByte (nibbleByte (rangeNibble sgn dp))
  | .lookSettingDev m => decoderByte (wireByte m)
  | .lookSettingFast sgn dp => decoderByte (wireByte (fastCandidate sgn dp))
  | .lookDigit d => decoderByte (wireByte d)
  | .slowDigit d => decoderByte (wireByte d)
  | .slowResyncDev m => decoderByte (wireByte m)
  | .slowResyncFast sgn dp => decoderByte (wireByte (fastCandidate sgn dp))
  | .trailFchi n => decoderByte (nibbleByte n)
  | .trailRate rate => decoderByte (wireByte rate)
  | .fastDigit d => decoderByte (wireByte d)
  | .fastLast d => decoderByte (wireByte d)
  | .fastResyncDev m => decoderByte (wireByte m)
  | .fastResyncFast sgn dp => decoderByte (wireByte (fastCandidate sgn dp))
  | .decTimeout => { owner := .decoder, event := .timeout }
  | .decAbort => { owner := .decoder, event := .abort }
  | .respByte m => responseByte (wireByte m)
  | .respLast m => responseByte (wireByte m)
  | .respTimeout => { owner := .response, event := .timeout }
  | .respAbort => { owner := .response, event := .abort }
  | .encode cmd params => request (.encode cmd params)
  | .contract p => request (.contract p)
  | .checksumSub l => request (.checksumSub l)
  | .checksumAdd l => request (.checksumAdd l)
  | .expand l => request (.expand l)
  | .pair00 => request (.pair 0b00#2)
  | .pair01 => request (.pair 0b01#2)
  | .pair10 => request (.pair 0b10#2)
  | .pair11 => request (.pair 0b11#2)
  | .unitCorrect fc dpRaw => request (.unitCorrect fc dpRaw)
  | .format d dp sgn ovl => request (.format d dp sgn ovl)

/-- Where the block stands right after reset (spec/70_reset_and_hazards.md R240). -/
def resetPosition : Position := { st := .awaitStart, k := 0, rcnt := 0 }

/-- The first byte of a table word: the block's words on the byte stream are single bytes, the first at the lowest
place (spec/20_memory.md R50, R52). -/
def tableByte (w : Nat) : Byte := BitVec.ofNat 8 w

/-- What the decoder reads from a table word: the word's first byte, given to the frame decoder right after reset
under the default DEVICE_CODES. A byte alone selects no operation: the (state, class) pair does (log 21). -/
def decodeTableWord (_nbits w : Nat) : Option Instr :=
  match decode Config.default.deviceCodes resetPosition (decoderByte (tableByte w)) with
  | .ok i => some i
  | .error _ => none

end Sys2Proof
end

