-- ==== Sys2Proof/Machine/State.lean ====
section
/-! DEFINITION. The state of the block (spec/10_state.md R20 to R35), the records its outputs carry
(spec/40_frame_decoder.md R110; spec/41_value_assembly.md R148; spec/42_command_codec.md R184;
spec/60_exceptions.md R210), the reasons a step can stop, and the state after reset (spec/70_reset_and_hazards.md
R240). -/

namespace Sys2Proof.Machine

/-- The frame layout of a measurement (R148). -/
inductive Mode where
  | slow
  | fast
  deriving DecidableEq, Repr

/-- The Measurement record, field by field (R148). `sign` is true for 1, negative. -/
structure Measurement where
  mode : Mode
  sign : Bool
  digits : List Logical
  dpRaw : BitVec 3
  decimalPosition : Int
  functionCode : Option Byte
  unit : Option Text
  statusFlags : Option Byte
  overload : Bool
  rateHint : Option Logical
  text : Option Text
  deriving DecidableEq, Repr

/-- The Setting record of a completed setting block (R110). -/
structure Setting where
  dev : Logical
  fclo : Nibble
  special : Byte
  dp : BitVec 3
  sgn : Bool
  deriving DecidableEq, Repr

/-- The kind of a Response (R184). -/
inductive ResponseKind where
  | layout (l : Layout)
  | raw
  deriving DecidableEq, Repr

/-- The reason EncodeRefused records (R210). -/
inductive EncodeReason where
  | tooManyParams
  | valueTooLarge
  deriving DecidableEq, Repr

/-- What a step emits: exactly one of these (R12). The first block is R210's list with Idle; the second is what the
requests for the pure functions return (DESIGN CHOICE, log 13). ConfigRefused is a refusal of the step (R222). -/
inductive Output where
  | idle
  | channelTimeout
  | checksumMismatch
  | resync
  | aborted
  | encodeRefused (reason : EncodeReason)
  | invalid (index : Fin 42)
  | measurement (m : Measurement)
  | setting (s : Setting)
  | response (kind : ResponseKind) (r : Vector Logical 14)
  | sent
  | contracted (l : Vector Logical 14)
  | checksum (c : Logical)
  | expanded (p : Vector Byte 42)
  | pairByte (b : Byte)
  | corrected (unit : Text) (dp : Int)
  | formatted (text : Option Text)
  deriving DecidableEq, Repr

/-- Why a configuration is refused (R222). -/
inductive ConfigError where
  /-- DEVICE_CODES has this member, which is 0x10 or more. -/
  | deviceCode (m : Logical)
  /-- DP_CORRECTION breaks R144. DESIGN CHOICE (log 25): R210 names nothing to record in this case, and the reason
  names no code. -/
  | correctionTable
  deriving DecidableEq, Repr

/-- The reasons the machine stops with a fault. The spec's own errors are outputs (spec/60_exceptions.md), so these
are the model's: registers that do not exist. No step reaches one from any state, since the decoder rejects the position first. -/
inductive Fault where
  /-- Raised by the digit rows when `dig[k]` is asked for with k above 5. Safe: no rule reaches it (R21). -/
  | noDigitRegister (k : BitVec 3)
  /-- Raised by RESP.BYTE when `rbuf[rcnt]` is asked for with rcnt above 13. Safe: no rule reaches it (R33). -/
  | noResponseRegister (rcnt : BitVec 4)
  deriving DecidableEq, Repr

/-- The reasons a step is refused. -/
inductive Refusal where
  /-- Raised by an arm of exec whose operation has no meaning yet. Safe. No arm is so. -/
  | notModelled (mnemonic : String)
  /-- ConfigRefused, code 7: raised by every step under a configuration R222 refuses; the block has no step there.
  The spec's own refusal. -/
  | configRefused (e : ConfigError)
  /-- Raised by a step whose input the decoder rejects. Safe (logs 17, 19). -/
  | rejected (e : DecodeError)
  deriving DecidableEq, Repr

/-- The block's state. A register has the name the spec gives it. -/
structure State where
  /-- The configuration (R35). No step writes it. -/
  cfg : Config
  /-- The events the environment has lined up, the next one first (R63; the model's own field, log 1). -/
  inputs : List Input
  /-- The decoder's sequencing register (R20). -/
  st : Phase
  /-- The position counter (R21). -/
  k : BitVec 3
  /-- The device code of the frame in progress (R22). -/
  dev : Logical
  /-- The captured nibbles (R23). -/
  fclo : Nibble
  sp1 : Nibble
  sp2 : Nibble
  rng : Nibble
  /-- The raw decimal position and the sign (R24). -/
  dp : BitVec 3
  sgn : Bool
  /-- The digit buffer, in wire order (R25). -/
  dig : Vector Logical 6
  /-- The overload flag (R26). -/
  ovl : Bool
  /-- The function-code high nibble (R27). -/
  fchi : Nibble
  /-- The last-known registers; `none` is the spec's "none seen yet" (R30). -/
  lkFclo : Option Nibble
  lkFchi : Option Nibble
  lkSpecial : Option Byte
  lkRate : Option Logical
  /-- The response buffer and its count (R33). -/
  rbuf : Vector Logical 14
  rcnt : BitVec 4
  /-- The output of the latest step (R12; the model's own field, log 3). -/
  out : Output
  /-- What has been handed to the byte sink, one entry per `write_bytes` call, the oldest first (R12, R178; the
  model's own field, log 4). -/
  sink : List (Vector Byte 42)
  deriving DecidableEq, Repr

/-- The state right after reset (R240). The capture registers and `rbuf`, which the spec leaves unspecified, are 0
(DESIGN CHOICE, logs 5 and 6); the configuration is the default one (logs 8, 9). -/
def State.reset : State where
  cfg := Config.default
  inputs := []
  st := .awaitStart
  k := 0
  dev := 0
  fclo := 0
  sp1 := 0
  sp2 := 0
  rng := 0
  dp := 0
  sgn := false
  dig := Vector.replicate 6 0
  ovl := false
  fchi := 0
  lkFclo := none
  lkFchi := none
  lkSpecial := none
  lkRate := none
  rbuf := Vector.replicate 14 0
  rcnt := 0
  out := .idle
  sink := []

end Sys2Proof.Machine
end

