-- ==== Sys2Proof/Machine/Ops.lean ====
section
/-! DEFINITION. The named operations over the block's registers that the meanings share: emitting, taking an event,
starting a frame, capturing a digit, committing the last-known status, ending an operation on an error or
cancellation (the block's whole "trap entry", spec/60_exceptions.md R218; there is no return, R219), and the write to
the byte sink. -/

namespace Sys2Proof.Machine

/-- `emit o`: the step's one output (R12). -/
def State.emit (s : State) (o : Output) : State := { s with out := o }

/-- Where the block stands (R21, R33). -/
def State.position (s : State) : Position := { st := s.st, k := s.k, rcnt := s.rcnt }

/-- The next event and the state that has consumed it: a byte, once read, is gone (R55). -/
def State.fetch (s : State) : Option (Input × State) :=
  match s.inputs with
  | [] => none
  | x :: rest => some (x, { s with inputs := rest })

/-- With no event the block waits and keeps all its state (R226; log 2). -/
def State.wait (s : State) : State := s

/-- `st <- S; k <- n` (R11). -/
def State.goTo (s : State) (st : Phase) (k : BitVec 3) : State := { s with st := st, k := k }

/-- Begin(m) on the device-code path (R101). -/
def State.beginDevice (s : State) (m : Logical) : State := { s with dev := m, st := .statusBytes, k := 1 }

/-- Begin(m) on the fast-data path, the candidate's fields given (R101). -/
def State.beginFast (s : State) (sgn : Bool) (dp : BitVec 3) : State :=
  { s with dp := dp, sgn := sgn, ovl := false, st := .digitsFast, k := 0 }

/-- The registers STATUS.RANGE captures, and the digit phase it enters (R109). -/
def State.captureRange (s : State) (sgn : Bool) (dp : BitVec 3) : State :=
  { s with rng := rangeNibble sgn dp, dp := dp, sgn := sgn, ovl := false, st := .digitsSlow, k := 0 }

/-- `dig[i] <- m; ovl <- ovl or (m >= 10)` (R111, R112, R116, R117). -/
def State.captureDigit (s : State) (i : Fin 6) (m : Logical) : State :=
  { s with dig := s.dig.set i.val m, ovl := overloadAfter s.ovl m }

/-- A setting block commits what it carries: the low nibble of the function code and the special field (R110). -/
def State.commitSetting (s : State) : State :=
  { s with lkFclo := some s.fclo, lkSpecial := some (specialField s.sp1 s.sp2) }

/-- A slow frame commits the whole last-known status (R115). -/
def State.commitSlow (s : State) (rate : Logical) : State :=
  { s with lkFclo := some s.fclo, lkFchi := some s.fchi, lkSpecial := some (specialField s.sp1 s.sp2),
           lkRate := some rate }

/-- The Setting record of the block just completed (R110). -/
def State.settingRecord (s : State) : Setting :=
  { dev := s.dev, fclo := s.fclo, special := specialField s.sp1 s.sp2, dp := s.dp, sgn := s.sgn }

/-- Taking an error or a cancellation: the consumer that raised it returns to idle, its output is the error's, and
nothing else changes; no state is saved and control goes nowhere (R218, R119, R120, R185). -/
def State.endOperation (s : State) (consumer : Owner) (o : Output) : State :=
  match consumer with
  | .decoder => (s.goTo .awaitStart 0).emit o
  | .response => { s with rcnt := 0, out := o }

/-- `rbuf[rcnt] <- m; rcnt <- rcnt + 1` (R181). -/
def State.storeResponse (s : State) (i : Fin 14) (m : Logical) : State :=
  { s with rbuf := s.rbuf.set i.val m, rcnt := s.rcnt + 1 }

/-- `ChanWrite(P)`: one `write_bytes` call (R12, R178). -/
def State.chanWrite (s : State) (p : Vector Byte 42) : State := { s with sink := s.sink ++ [p] }

/-- The register `dig[k]`, or the fault that there is none. -/
def withDigitRegister (s : State) (act : Fin 6 → State) : Host.Outcome State Fault Refusal :=
  if h : s.k.toNat < 6 then .next (act ⟨s.k.toNat, h⟩) else .fault (.noDigitRegister s.k)

/-- The register `rbuf[rcnt]`, or the fault that there is none. -/
def withResponseRegister (s : State) (act : Fin 14 → State) : Host.Outcome State Fault Refusal :=
  if h : s.rcnt.toNat < 14 then .next (act ⟨s.rcnt.toNat, h⟩) else .fault (.noResponseRegister s.rcnt)

end Sys2Proof.Machine
end

