-- ==== Sys2Proof/Machine/Codec.lean ====
section
/-! DEFINITION. The command codec: checksum, frame build, wire expansion, contraction (spec/42_command_codec.md R170 to
R180; spec/30_encoding.md R79 to R82), with the meanings of ENCODE, CONTRACT, CHECKSUM.*, EXPAND and PAIR_*. None of
them reads or writes a register (spec/10_state.md R34). -/

namespace Sys2Proof.Machine

/-- CS_SUB (R170): start at 0, subtract each byte, keep the low 6 bits. -/
def checksumSubtract (l : List Logical) : Logical := BitVec.ofInt 6 (l.foldl (fun acc b => acc - (b.toNat : Int)) 0)

/-- The sum of the bytes, a mathematical integer (R171). -/
def byteSum (l : List Logical) : Nat := l.foldl (fun acc b => acc + b.toNat) 0

/-- CS_ADD (R171): `(64 - sum) mod 64`, the mathematical remainder. -/
def checksumAddUp (l : List Logical) : Logical := BitVec.ofInt 6 ((64 - (byteSum l : Int)) % 64)

/-- CS, the checksum in use (R172). -/
def checksumOf (rule : ChecksumRule) (l : List Logical) : Logical :=
  match rule with
  | .sub => checksumSubtract l
  | .add => checksumAddUp l

/-- Nib(bit) (R177). -/
def nib (b : Bool) : Nibble := if b then 0xF#4 else 0x0#4

/-- PairByte(q) (R177). -/
def pairByte (order : NibbleOrder) (q : BitVec 2) : Byte :=
  match order with
  | .lowbitLownib => nib (q.getLsbD 1) ++ nib (q.getLsbD 0)
  | .lowbitHighnib => nib (q.getLsbD 0) ++ nib (q.getLsbD 1)

/-- The bit pair `L[j][2k+1 : 2k]` (R58, R80). -/
def bitPair (v : Logical) (k : Nat) : BitVec 2 := v.extractLsb' (2 * k) 2

/-- Expand(L): P[3j + k] is the byte of pair k of L[j] (R176). -/
def expandFrame (order : NibbleOrder) (l : Vector Logical 14) : Vector Byte 42 :=
  Vector.ofFn fun (i : Fin 42) => pairByte order (bitPair (l[i.val / 3]'(by omega)) (i.val % 3))

/-- The high and the low nibble of a physical byte (R179). -/
def highNibble (b : Byte) : Nibble := b.extractLsb' 4 4
def lowNibbleOf (b : Byte) : Nibble := b.setWidth 4

/-- A nibble flag: 0x0 or 0xF (R81). -/
def isNibbleFlag (n : Nibble) : Bool := n == 0x0#4 || n == 0xF#4

/-- A physical byte the expansion can produce: 0x00, 0x0F, 0xF0 or 0xFF (R82). -/
def isWireByte (b : Byte) : Bool := isNibbleFlag (lowNibbleOf b) && isNibbleFlag (highNibble b)

/-- The bit pair (b1, b0) of a physical byte (R179). -/
def unpairByte (order : NibbleOrder) (b : Byte) : BitVec 2 :=
  match order with
  | .lowbitLownib => BitVec.ofBool (highNibble b == 0xF#4) ++ BitVec.ofBool (lowNibbleOf b == 0xF#4)
  | .lowbitHighnib => BitVec.ofBool (lowNibbleOf b == 0xF#4) ++ BitVec.ofBool (highNibble b == 0xF#4)

/-- A logical byte from its three pairs, the low one first (R179). -/
def logicalOfPairs (q0 q1 q2 : BitVec 2) : Logical := q2 ++ q1 ++ q0

/-- The lowest index whose physical byte is not canonical (R179). -/
def firstBadIndex (p : Vector Byte 42) : Option (Fin 42) := (List.finRange 42).find? fun i => !isWireByte p[i]

/-- The logical bytes of 42 canonical physical bytes (R179). -/
def gatherFrame (order : NibbleOrder) (p : Vector Byte 42) : Vector Logical 14 :=
  Vector.ofFn fun (j : Fin 14) =>
    logicalOfPairs (unpairByte order (p[3 * j.val]'(by omega))) (unpairByte order (p[3 * j.val + 1]'(by omega)))
      (unpairByte order (p[3 * j.val + 2]'(by omega)))

/-- Contract(P): Ok(L), or Invalid at the lowest bad index (R179). -/
def contractFrame (order : NibbleOrder) (p : Vector Byte 42) : Except (Fin 42) (Vector Logical 14) :=
  match firstBadIndex p with
  | some i => .error i
  | none => .ok (gatherFrame order p)

/-- Parameter slot i: the given parameter, or FILL (R174). -/
def paramSlot (cfg : Config) (params : List Nat) (i : Nat) : Logical :=
  match params[i]? with
  | some v => BitVec.ofNat 6 v
  | none => cfg.fill

/-- The thirteen payload bytes L[0..12] of a command (R79, R174). -/
def commandPayload (cfg : Config) (cmd : Nat) (params : List Nat) : Vector Logical 13 :=
  #v[cfg.addrFlags, cfg.mark1, cfg.mark2, BitVec.ofNat 6 cmd, paramSlot cfg params 0, paramSlot cfg params 1,
    paramSlot cfg params 2, paramSlot cfg params 3, paramSlot cfg params 4, paramSlot cfg params 5,
    paramSlot cfg params 6, paramSlot cfg params 7, paramSlot cfg params 8]

/-- The whole command frame L[0..13] (R174). -/
def commandFrame (cfg : Config) (cmd : Nat) (params : List Nat) : Vector Logical 14 :=
  (commandPayload cfg cmd params).push (checksumOf cfg.checksumRule (commandPayload cfg cmd params).toList)

/-- Why an ENCODE request is refused, if it is (R175). The count is looked at first, in the order of R174's `require`
(DEDUCED, log 14). -/
def encodeRefusal (cmd : Nat) (params : List Nat) : Option EncodeReason :=
  if 9 < params.length then some .tooManyParams
  else if 64 ≤ cmd ∨ params.any (fun v => decide (64 ≤ v)) then some .valueTooLarge
  else none

/-- ENCODE (R174, R175): refuse and change nothing, or write the 42 bytes in one call. -/
def execEncode (cmd : Nat) (params : List Nat) (s : State) : Host.Outcome State Fault Refusal :=
  match encodeRefusal cmd params with
  | some r => .next (s.emit (.encodeRefused r))
  | none => .next ((s.chanWrite (expandFrame s.cfg.nibbleOrder (commandFrame s.cfg cmd params))).emit .sent)

/-- CONTRACT (R179). -/
def execContract (p : Vector Byte 42) (s : State) : Host.Outcome State Fault Refusal :=
  match contractFrame s.cfg.nibbleOrder p with
  | .ok l => .next (s.emit (.contracted l))
  | .error i => .next (s.emit (.invalid i))

/-- CHECKSUM.SUB (R170). -/
def execChecksumSub (l : Vector Logical 13) (s : State) : Host.Outcome State Fault Refusal :=
  .next (s.emit (.checksum (checksumSubtract l.toList)))

/-- CHECKSUM.ADD (R171). -/
def execChecksumAdd (l : Vector Logical 13) (s : State) : Host.Outcome State Fault Refusal :=
  .next (s.emit (.checksum (checksumAddUp l.toList)))

/-- EXPAND (R176). -/
def execExpand (l : Vector Logical 14) (s : State) : Host.Outcome State Fault Refusal :=
  .next (s.emit (.expanded (expandFrame s.cfg.nibbleOrder l)))

/-- PAIR_00 (R177). -/
def execPair00 (s : State) : Host.Outcome State Fault Refusal :=
  .next (s.emit (.pairByte (pairByte s.cfg.nibbleOrder 0b00#2)))

/-- PAIR_01 (R177). -/
def execPair01 (s : State) : Host.Outcome State Fault Refusal :=
  .next (s.emit (.pairByte (pairByte s.cfg.nibbleOrder 0b01#2)))

/-- PAIR_10 (R177). -/
def execPair10 (s : State) : Host.Outcome State Fault Refusal :=
  .next (s.emit (.pairByte (pairByte s.cfg.nibbleOrder 0b10#2)))

/-- PAIR_11 (R177). -/
def execPair11 (s : State) : Host.Outcome State Fault Refusal :=
  .next (s.emit (.pairByte (pairByte s.cfg.nibbleOrder 0b11#2)))

end Sys2Proof.Machine
end

