-- ==== Sys2Proof/Machine/Value.lean ====
section
/-! DEFINITION. Digit assembly: the UnitTable, the decimal-position correction, the formatter, and the Measurement
record (spec/41_value_assembly.md R140 to R156), with the meanings of UNIT_CORRECT and FORMAT. -/

namespace Sys2Proof.Machine

/-- The table index of a function code below 32. -/
def tableCode (fc : Byte) : BitVec 5 := fc.setWidth 5

/-- UNIT_LABEL: the known entry is "V" (R143); the configuration gives the others. -/
def unitLabel (cfg : Config) (code : BitVec 5) : Option Text :=
  if code = 0x01#5 then some "V".toList else lookupFirst cfg.unitLabel code

/-- FALLBACK_LABEL: as configured, and a free value for a code the configuration lists none for (log 11). -/
def fallbackLabel (cfg : Config) (fc : Byte) : Text :=
  (lookupFirst cfg.fallbackLabel fc).getD (Config.freeFallbackLabel fc)

/-- Label(fc) (R141). -/
def labelOf (cfg : Config) (fc : Byte) : Text :=
  if fc.toNat < 32 then (unitLabel cfg (tableCode fc)).getD (fallbackLabel cfg fc) else fallbackLabel cfg fc

/-- DP_CORRECTION: the known entry is Id (R143); a code with no stated rule is Id (R144). -/
def dpCorrection (cfg : Config) (code : BitVec 5) : Correction :=
  if code = 0x01#5 then .id else (lookupFirst cfg.correction code).getD .id

/-- The correction kind of a function code: codes of 32 and more are not corrected (R142). -/
def correctionKind (cfg : Config) (fc : Byte) : Correction :=
  if fc.toNat < 32 then dpCorrection cfg (tableCode fc) else .id

/-- A correction applied to a raw position; the result may be negative (R142). -/
def applyCorrection (kind : Correction) (dpRaw : BitVec 3) : Int :=
  match kind with
  | .id => (dpRaw.toNat : Int)
  | .add d => (dpRaw.toNat : Int) + d
  | .const c => c

/-- Correct(fc, dp_raw) (R142). -/
def correct (cfg : Config) (fc : Byte) (dpRaw : BitVec 3) : Text × Int :=
  (labelOf cfg fc, applyCorrection (correctionKind cfg fc) dpRaw)

/-- `chr_digit(d)`: the character '0' + d for d in 0..9 (R11). The spec gives no character for a larger digit, which
only a FORMAT request can ask for; it is a free value (log 12). -/
def chrDigit (d : Logical) : Char := if d.toNat ≤ 9 then Char.ofNat (48 + d.toNat) else Config.freeDigitChar d

/-- `"0"*n`. -/
def zeros (n : Nat) : Text := List.replicate n '0'

/-- The leading minus (R150). -/
def signText (sgn : Bool) : Text := if sgn then ['-'] else []

/-- The digits with the point at position dp (R151 to R154). -/
def placePoint (ds : Text) (dp : Int) : Text :=
  if dp < 0 then '.' :: (zeros (-dp).toNat ++ ds)
  else if dp = 0 then ds ++ ['.']
  else if dp ≤ (ds.length : Int) then ds.take (ds.length - dp.toNat) ++ '.' :: ds.drop (ds.length - dp.toNat)
  else '.' :: (zeros (dp.toNat - ds.length) ++ ds)

/-- Format(d, dp, sgn, ovl) (R150): no value under overload (R149). -/
def formatValue (d : List Logical) (dp : Int) (sgn ovl : Bool) : Option Text :=
  if ovl then none else some (signText sgn ++ placePoint (d.map chrDigit) dp)

/-- AssembleSlow (R146). -/
def assembleSlow (cfg : Config) (d : List Logical) (dp : BitVec 3) (sgn ovl : Bool) (fclo fchi sp1 sp2 : Nibble)
    (rate : Logical) : Measurement :=
  let fc := functionCode fclo fchi
  let c := correct cfg fc dp
  { mode := .slow, sign := sgn, digits := d, dpRaw := dp, decimalPosition := c.2, functionCode := some fc,
    unit := some c.1, statusFlags := some (specialField sp1 sp2), overload := ovl, rateHint := some rate,
    text := formatValue d c.2 sgn ovl }

/-- The unit and the position of a fast frame: corrected when the function code is known, else absent and raw
(R147). -/
def correctKnown (cfg : Config) (known : Option Byte) (dp : BitVec 3) : Option Text × Int :=
  match known with
  | some fc => (some (labelOf cfg fc), (correct cfg fc dp).2)
  | none => (none, (dp.toNat : Int))

/-- AssembleFast (R147): function code, special field and rate are the last-known ones. -/
def assembleFast (cfg : Config) (known : Option Byte) (lkSpecial : Option Byte) (lkRate : Option Logical)
    (d : List Logical) (dp : BitVec 3) (sgn ovl : Bool) : Measurement :=
  let c := correctKnown cfg known dp
  { mode := .fast, sign := sgn, digits := d, dpRaw := dp, decimalPosition := c.2, functionCode := known,
    unit := c.1, statusFlags := lkSpecial, overload := ovl, rateHint := lkRate, text := formatValue d c.2 sgn ovl }

/-- R144 on an effective table: the six named codes are six different codes, with the kinds the source gives them. -/
def correctionTableOk (cfg : Config) : Bool :=
  let n := cfg.named
  decide ([n.i1, n.i2, n.c, n.dB, n.p1, n.p2].Nodup) &&
    decide (dpCorrection cfg n.i1 = .add 1) && decide (dpCorrection cfg n.i2 = .add 1) &&
    decide (dpCorrection cfg n.c = .add 1) && decide (dpCorrection cfg n.dB = .const 3) &&
    decide (dpCorrection cfg n.p1 = .add (-2)) && decide (dpCorrection cfg n.p2 = .add (-2))

/-- The first member of DEVICE_CODES that is 0x10 or more (R222). -/
def badDeviceCode (codes : List Logical) : Option Logical := codes.find? fun m => decide (0x10 ≤ m.toNat)

/-- Whether, and why, the configuration is refused before the first event (R222). -/
def configRefusal (cfg : Config) : Option ConfigError :=
  match badDeviceCode cfg.deviceCodes with
  | some m => some (.deviceCode m)
  | none => if correctionTableOk cfg then none else some .correctionTable

/-- UNIT_CORRECT (R142): the label and the corrected position. No state changes. -/
def execUnitCorrect (fc : Byte) (dpRaw : BitVec 3) (s : State) : Host.Outcome State Fault Refusal :=
  .next (s.emit (.corrected (correct s.cfg fc dpRaw).1 (correct s.cfg fc dpRaw).2))

/-- FORMAT (R150): the text, or none under overload. No state changes. -/
def execFormat (d : List Logical) (dp : Int) (sgn ovl : Bool) (s : State) : Host.Outcome State Fault Refusal :=
  .next (s.emit (.formatted (formatValue d dp sgn ovl)))

end Sys2Proof.Machine
end

