-- ==== Sys2Proof/Machine/Decoder.lean ====
section
/-! DEFINITION. The frame decoder's twenty-one rows (spec/40_frame_decoder.md R103 to R120), in the table's order. Each
meaning is its rule's pseudocode over the registers; the row's state and class are what the decoder chose it by. -/

namespace Sys2Proof.Machine

/-- AWAIT.DEV (R103). -/
def execAwaitDev (m : Logical) (s : State) : Host.Outcome State Fault Refusal := .next ((s.beginDevice m).emit .idle)

/-- AWAIT.FAST (R104). -/
def execAwaitFast (sgn : Bool) (dp : BitVec 3) (s : State) : Host.Outcome State Fault Refusal :=
  .next ((s.beginFast sgn dp).emit .idle)

/-- AWAIT.SKIP (R105): the byte is discarded; no register is written. -/
def execAwaitSkip (_m : Logical) (s : State) : Host.Outcome State Fault Refusal := .next (s.emit .idle)

/-- STATUS.FCLO (R106). -/
def execStatusFclo (fclo : Nibble) (s : State) : Host.Outcome State Fault Refusal :=
  .next (State.emit { s with fclo := fclo, k := 2 } .idle)

/-- STATUS.SP1 (R107). -/
def execStatusSp1 (sp1 : Nibble) (s : State) : Host.Outcome State Fault Refusal :=
  .next (State.emit { s with sp1 := sp1, k := 3 } .idle)

/-- STATUS.SP2 (R108). -/
def execStatusSp2 (sp2 : Nibble) (s : State) : Host.Outcome State Fault Refusal :=
  .next (State.emit { s with sp2 := sp2, k := 4 } .idle)

/-- STATUS.RANGE (R109). -/
def execStatusRange (sgn : Bool) (dp : BitVec 3) (s : State) : Host.Outcome State Fault Refusal :=
  .next ((s.captureRange sgn dp).emit .idle)

/-- The output and the commit of LOOK.SETTING, from the values before the step (R110, R11). -/
def endSetting (s : State) : State := s.commitSetting.emit (.setting s.settingRecord)

/-- LOOK.SETTING.DEV (R110). -/
def execLookSettingDev (m : Logical) (s : State) : Host.Outcome State Fault Refusal :=
  .next ((endSetting s).beginDevice m)

/-- LOOK.SETTING.FAST (R110). -/
def execLookSettingFast (sgn : Bool) (dp : BitVec 3) (s : State) : Host.Outcome State Fault Refusal :=
  .next ((endSetting s).beginFast sgn dp)

/-- LOOK.DIGIT (R111). -/
def execLookDigit (digit : Logical) (s : State) : Host.Outcome State Fault Refusal :=
  .next (State.emit { s.captureDigit 0 digit with k := 1 } .idle)

/-- Where a slow digit leads: the trailing fields after digit 5, else the next digit (R112). -/
def afterSlowDigit (k : BitVec 3) (s : State) : State :=
  if k = 5 then s.goTo .trailingFields 0 else { s with k := k + 1 }

/-- SLOW.DIGIT (R112). -/
def execSlowDigit (digit : Logical) (s : State) : Host.Outcome State Fault Refusal :=
  withDigitRegister s fun i => (afterSlowDigit s.k (s.captureDigit i digit)).emit .idle

/-- SLOW.RESYNC.DEV (R113). -/
def execSlowResyncDev (m : Logical) (s : State) : Host.Outcome State Fault Refusal :=
  .next ((s.beginDevice m).emit .resync)

/-- SLOW.RESYNC.FAST (R113). -/
def execSlowResyncFast (sgn : Bool) (dp : BitVec 3) (s : State) : Host.Outcome State Fault Refusal :=
  .next ((s.beginFast sgn dp).emit .resync)

/-- TRAIL.FCHI (R114). -/
def execTrailFchi (fchi : Nibble) (s : State) : Host.Outcome State Fault Refusal :=
  .next (State.emit { s with fchi := fchi, k := 1 } .idle)

/-- The measurement of the slow frame in the registers (R115, R146). -/
def slowMeasurement (rate : Logical) (s : State) : Measurement :=
  assembleSlow s.cfg s.dig.toList s.dp s.sgn s.ovl s.fclo s.fchi s.sp1 s.sp2 rate

/-- TRAIL.RATE (R115). -/
def execTrailRate (rate : Logical) (s : State) : Host.Outcome State Fault Refusal :=
  .next (((s.commitSlow rate).goTo .awaitStart 0).emit (.measurement (slowMeasurement rate s)))

/-- FAST.DIGIT (R116). -/
def execFastDigit (digit : Logical) (s : State) : Host.Outcome State Fault Refusal :=
  withDigitRegister s fun i => State.emit { s.captureDigit i digit with k := s.k + 1 } .idle

/-- The measurement of the fast frame in the registers, its fifth digit given (R117, R147). -/
def fastMeasurement (digit : Logical) (s : State) : Measurement :=
  assembleFast s.cfg (knownFunctionCode s.lkFclo s.lkFchi) s.lkSpecial s.lkRate (s.dig.toList.take 4 ++ [digit]) s.dp
    s.sgn (overloadAfter s.ovl digit)

/-- FAST.LAST (R117). -/
def execFastLast (digit : Logical) (s : State) : Host.Outcome State Fault Refusal :=
  .next (((s.captureDigit 4 digit).goTo .awaitStart 0).emit (.measurement (fastMeasurement digit s)))

/-- FAST.RESYNC.DEV (R118). -/
def execFastResyncDev (m : Logical) (s : State) : Host.Outcome State Fault Refusal :=
  .next ((s.beginDevice m).emit .resync)

/-- FAST.RESYNC.FAST (R118). -/
def execFastResyncFast (sgn : Bool) (dp : BitVec 3) (s : State) : Host.Outcome State Fault Refusal :=
  .next ((s.beginFast sgn dp).emit .resync)

/-- DEC.TIMEOUT (R119). -/
def execDecTimeout (s : State) : Host.Outcome State Fault Refusal := .next (s.endOperation .decoder .channelTimeout)

/-- DEC.ABORT (R120). -/
def execDecAbort (s : State) : Host.Outcome State Fault Refusal := .next (s.endOperation .decoder .aborted)

end Sys2Proof.Machine
end

