-- ==== Sys2Proof/Machine/Response.lean ====
section
/-! DEFINITION. The response receiver (spec/42_command_codec.md R181 to R187): RESP.BYTE, RESP.LAST, RESP.TIMEOUT and
RESP.ABORT. -/

namespace Sys2Proof.Machine

/-- The fourteen bytes R = rbuf[0..12] ++ [m] (R182). -/
def responseFrame (s : State) (m : Logical) : Vector Logical 14 := s.rbuf.set 13 m

/-- The check `CS(R[0..12]) == R[13]` (R183). -/
def responsePasses (cfg : Config) (r : Vector Logical 14) : Bool :=
  checksumOf cfg.checksumRule (r.toList.take 13) == r[13]

/-- The kind, by the command id at R[3] (R184). -/
def responseKind (cfg : Config) (r : Vector Logical 14) : ResponseKind :=
  match lookupFirst cfg.respLayout r[3] with
  | some l => .layout l
  | none => .raw

/-- CheckAndDispatch(R): the checksum before the dispatch (R183, R184, R217). -/
def checkAndDispatch (cfg : Config) (r : Vector Logical 14) : Output :=
  if responsePasses cfg r then .response (responseKind cfg r) r else .checksumMismatch

/-- RESP.BYTE (R181). -/
def execRespByte (m : Logical) (s : State) : Host.Outcome State Fault Refusal :=
  withResponseRegister s fun i => (s.storeResponse i m).emit .idle

/-- RESP.LAST (R182). -/
def execRespLast (m : Logical) (s : State) : Host.Outcome State Fault Refusal :=
  .next (s.endOperation .response (checkAndDispatch s.cfg (responseFrame s m)))

/-- RESP.TIMEOUT (R185). -/
def execRespTimeout (s : State) : Host.Outcome State Fault Refusal := .next (s.endOperation .response .channelTimeout)

/-- RESP.ABORT (R185). -/
def execRespAbort (s : State) : Host.Outcome State Fault Refusal := .next (s.endOperation .response .aborted)

end Sys2Proof.Machine
end

