-- ==== Sys2Proof/Machine/Dispatch.lean ====
section
/-! DEFINITION. One arm per operation: the meaning each row of spec/opcode_table.json has. -/

namespace Sys2Proof.Machine

def exec (i : Instr) (s : State) : Host.Outcome State Fault Refusal :=
  match i with
  -- the frame decoder, rules R103 to R120
  | .awaitDev m => Sys2Proof.Machine.execAwaitDev m s
  | .awaitFast sgn dp => Sys2Proof.Machine.execAwaitFast sgn dp s
  | .awaitSkip m => Sys2Proof.Machine.execAwaitSkip m s
  | .statusFclo n => Sys2Proof.Machine.execStatusFclo n s
  | .statusSp1 n => Sys2Proof.Machine.execStatusSp1 n s
  | .statusSp2 n => Sys2Proof.Machine.execStatusSp2 n s
  | .statusRange sgn dp => Sys2Proof.Machine.execStatusRange sgn dp s
  | .lookSettingDev m => Sys2Proof.Machine.execLookSettingDev m s
  | .lookSettingFast sgn dp => Sys2Proof.Machine.execLookSettingFast sgn dp s
  | .lookDigit d => Sys2Proof.Machine.execLookDigit d s
  | .slowDigit d => Sys2Proof.Machine.execSlowDigit d s
  | .slowResyncDev m => Sys2Proof.Machine.execSlowResyncDev m s
  | .slowResyncFast sgn dp => Sys2Proof.Machine.execSlowResyncFast sgn dp s
  | .trailFchi n => Sys2Proof.Machine.execTrailFchi n s
  | .trailRate rate => Sys2Proof.Machine.execTrailRate rate s
  | .fastDigit d => Sys2Proof.Machine.execFastDigit d s
  | .fastLast d => Sys2Proof.Machine.execFastLast d s
  | .fastResyncDev m => Sys2Proof.Machine.execFastResyncDev m s
  | .fastResyncFast sgn dp => Sys2Proof.Machine.execFastResyncFast sgn dp s
  | .decTimeout => Sys2Proof.Machine.execDecTimeout s
  | .decAbort => Sys2Proof.Machine.execDecAbort s
  -- the response receiver, rules R181 to R185
  | .respByte m => Sys2Proof.Machine.execRespByte m s
  | .respLast m => Sys2Proof.Machine.execRespLast m s
  | .respTimeout => Sys2Proof.Machine.execRespTimeout s
  | .respAbort => Sys2Proof.Machine.execRespAbort s
  -- the codec, rules R170 to R180
  | .encode cmd params => Sys2Proof.Machine.execEncode cmd params s
  | .contract p => Sys2Proof.Machine.execContract p s
  | .checksumSub l => Sys2Proof.Machine.execChecksumSub l s
  | .checksumAdd l => Sys2Proof.Machine.execChecksumAdd l s
  | .expand l => Sys2Proof.Machine.execExpand l s
  | .pair00 => Sys2Proof.Machine.execPair00 s
  | .pair01 => Sys2Proof.Machine.execPair01 s
  | .pair10 => Sys2Proof.Machine.execPair10 s
  | .pair11 => Sys2Proof.Machine.execPair11 s
  -- digit assembly, rules R142 and R150
  | .unitCorrect fc dpRaw => Sys2Proof.Machine.execUnitCorrect fc dpRaw s
  | .format d dp sgn ovl => Sys2Proof.Machine.execFormat d dp sgn ovl s

end Sys2Proof.Machine
end

