-- ==== Sys2Proof/Machine/Fetch.lean ====
section
/-! DEFINITION. How a step comes to its operation: the configuration is checked (spec/60_exceptions.md R222), the next
event is consumed with its owner (spec/20_memory.md R55, R63, R65), and the decoder reads it where the block stands
(spec/40_frame_decoder.md R102). -/

namespace Sys2Proof.Machine

/-- What a step finds: `none` when no event has arrived; else a refusal by name, or the operation and the state that
has consumed its event. -/
def readNext (s : State) : Option (Except Refusal (Instr × State)) :=
  match configRefusal s.cfg with
  | some e => some (.error (.configRefused e))
  | none =>
    match s.fetch with
    | none => none
    | some (x, t) =>
      match decode s.cfg.deviceCodes s.position x with
      | .error e => some (.error (.rejected e))
      | .ok i => some (.ok (i, t))

/-- The environment lines up one table word as the next event, where the block reads a table word: given to the frame
decoder, which stands at a frame start (log 21). -/
def placeTableWord (s : State) (w : Nat) : State :=
  { s with inputs := decoderByte (tableByte w) :: s.inputs, st := .awaitStart, k := 0 }

end Sys2Proof.Machine
end

