-- ==== Sys2Proof/Machine/Step.lean ====
section
/-! DEFINITION. One step: one event (spec/00_scope.md R3, R12), consumed, read and executed; with no event the block
waits (spec/60_exceptions.md R226). -/

namespace Sys2Proof.Machine

/-- The step of the machine. -/
def step (s : State) : Host.Outcome State Fault Refusal :=
  match readNext s with
  | none => .next s.wait
  | some (.error r) => .refused r
  | some (.ok (i, t)) => exec i t

/-- The state whose next step runs what `decodeTableWord` reads from the word (log 21). -/
def State.withFetchWord (s : State) (_nbits w : Nat) : State := placeTableWord s w

end Sys2Proof.Machine
end

