-- ==== Sys2Proof/Machine/HostCall.lean ====
section
/-! DEFINITION. The host's `next_measurement()` loop, as spec/40_frame_decoder.md R125 describes it: it gives byte events
to the decoder until a Measurement, a ChannelTimeout or an Aborted comes out. -/

namespace Sys2Proof.Machine

/-- The events of the call: a byte for the decoder, or the timeout or abort that comes in its place (R125, R119,
R120). A request, and an event of the receiver, is none of them. -/
def callEvent (x : Input) : Bool :=
  match x.owner, x.event with
  | .decoder, .byte _ => true
  | .decoder, .timeout => true
  | .decoder, .abort => true
  | .decoder, .encode _ _ => false
  | .decoder, .contract _ => false
  | .decoder, .checksumSub _ => false
  | .decoder, .checksumAdd _ => false
  | .decoder, .expand _ => false
  | .decoder, .pair _ => false
  | .decoder, .unitCorrect _ _ => false
  | .decoder, .format _ _ _ _ => false
  | .response, _ => false

/-- The outputs that end the call; Idle, Setting and Resync do not (R125). -/
def endsCall : Output → Bool
  | .measurement _ => true
  | .channelTimeout => true
  | .aborted => true
  | .idle => false
  | .setting _ => false
  | .resync => false
  | .checksumMismatch => false
  | .encodeRefused _ => false
  | .invalid _ => false
  | .response _ _ => false
  | .sent => false
  | .contracted _ => false
  | .checksum _ => false
  | .expanded _ => false
  | .pairByte _ => false
  | .corrected _ _ => false
  | .formatted _ => false

/-- At most `n` steps of the call: the output it returns and the state it leaves, or `none` while it has not returned:
it waits for more events, the next event is none of its own and it takes none such (log 24), or the step was
refused. -/
def nextMeasurement : Nat → State → Option (Output × State)
  | 0, _ => none
  | n + 1, s =>
    match s.inputs with
    | [] => none
    | x :: _ =>
      if callEvent x then
        match step s with
        | .next t => if endsCall t.out then some (t.out, t) else nextMeasurement n t
        | .fault _ => none
        | .refused _ => none
      else none

end Sys2Proof.Machine
end

