-- ==== Sys2Proof/Safety.lean ====
section
/-! DEFINITION. What claims are stated in: the legal positions (spec/10_state.md R21, R33), the block's invariant, and
the host duties a stream of events can show (spec/70_reset_and_hazards.md R246, R247). -/

namespace Sys2Proof.Machine

/-- The (st, k) pairs of R21's table. -/
def legalDecoder (st : Phase) (k : BitVec 3) : Bool :=
  match st with
  | .awaitStart => decide (k = 0)
  | .statusBytes => decide (1 ≤ k.toNat ∧ k.toNat ≤ 4)
  | .digitsSlow => decide (k.toNat ≤ 5)
  | .digitsFast => decide (k.toNat ≤ 4)
  | .trailingFields => decide (k.toNat ≤ 1)

/-- A legal position: R21's table, and a count of at most 13 (R33). -/
def legalPosition (p : Position) : Bool := legalDecoder p.st p.k && decide (p.rcnt.toNat ≤ 13)

/-- How many digits of the frame in progress `dig` holds (R21, R25). -/
def capturedCount (s : State) : Nat :=
  match s.st with
  | .digitsSlow => s.k.toNat
  | .digitsFast => s.k.toNat
  | .trailingFields => 6
  | .awaitStart => 0
  | .statusBytes => 0

/-- The digits of the frame in progress, in wire order. -/
def capturedDigits (s : State) : List Logical := s.dig.toList.take (capturedCount s)

/-- The digits of a frame are being read, or have been. -/
def inDigits (st : Phase) : Bool :=
  match st with
  | .digitsSlow => true
  | .digitsFast => true
  | .trailingFields => true
  | .awaitStart => false
  | .statusBytes => false

/-- A slow frame or setting block is in progress. -/
def onDevicePath (st : Phase) : Bool :=
  match st with
  | .statusBytes => true
  | .digitsSlow => true
  | .trailingFields => true
  | .awaitStart => false
  | .digitsFast => false

/-- The last-known registers as completed frames leave them: the low nibble and the special field are committed
together, the high nibble and the rate together, and the latter only with the former (R30). -/
def lastKnownOk (s : State) : Prop :=
  s.lkFclo.isSome = s.lkSpecial.isSome ∧ s.lkFchi.isSome = s.lkRate.isSome ∧
    (s.lkFchi.isSome = true → s.lkFclo.isSome = true)

/-- The invariant of the block. -/
structure State.Inv (s : State) : Prop where
  /-- The position is legal (R21, R33). -/
  position : legalPosition s.position = true
  /-- While digits are read, `ovl` says whether one of them is an overload digit (R26). -/
  overload : inDigits s.st = true → s.ovl = anyOverload (capturedDigits s)
  /-- No captured digit is a start byte (R76). -/
  digits : ∀ d ∈ capturedDigits s, isStart s.cfg.deviceCodes d = false
  /-- On the device-code path `dev` holds a device code (R22, R101). -/
  device : onDevicePath s.st = true → isDev s.cfg.deviceCodes s.dev = true
  /-- In the digits and the trailing fields of a slow frame, `rng` is the nibble `sgn` and `dp` came from (R24). -/
  range : s.st = .digitsSlow ∨ s.st = .trailingFields → s.rng = rangeNibble s.sgn s.dp
  /-- The last-known registers are as completed frames leave them (R30). -/
  lastKnown : lastKnownOk s

/-- A configuration the block runs under (R222). -/
def State.configOk (s : State) : Prop := configRefusal s.cfg = none

/-- The decoder is idle (R247). -/
def decoderIdle (s : State) : Bool := decide (s.st = .awaitStart)

/-- The receiver is idle (R247). -/
def receiverIdle (s : State) : Bool := decide (s.rcnt = 0)

/-- The consumer an event goes to leaves no other consumer in the middle of a frame: the switch R247 advises. -/
def cleanSwitch (s : State) (x : Input) : Bool :=
  match x.owner with
  | .decoder => receiverIdle s
  | .response => decoderIdle s

/-- The host duty of R246 on a stream of events: after an ENCODE that is sent, the response's fourteen bytes, or a
timeout of the receiver, come before the next ENCODE. `due` counts the response bytes still owed; an abort discards
those received (R185), so all are owed again. -/
def noPipelining : (due : Nat) → List Input → Bool
  | _, [] => true
  | due, x :: rest =>
    match x.event with
    | .encode cmd params => due == 0 && noPipelining (if (encodeRefusal cmd params).isSome then 0 else 14) rest
    | .byte _ =>
      match x.owner with
      | .response => noPipelining (due - 1) rest
      | .decoder => noPipelining due rest
    | .timeout =>
      match x.owner with
      | .response => noPipelining 0 rest
      | .decoder => noPipelining due rest
    | .abort =>
      match x.owner with
      | .response => noPipelining (if due = 0 then 0 else 14) rest
      | .decoder => noPipelining due rest
    | .contract _ => noPipelining due rest
    | .checksumSub _ => noPipelining due rest
    | .checksumAdd _ => noPipelining due rest
    | .expand _ => noPipelining due rest
    | .pair _ => noPipelining due rest
    | .unitCorrect _ _ => noPipelining due rest
    | .format _ _ _ _ => noPipelining due rest

/-- A start byte, as R100 words it: a member of DEVICE_CODES, or bits 5:4 equal to 0b01. -/
def startByte (codes : List Logical) (m : Logical) : Prop := m ∈ codes ∨ m.extractLsb' 4 2 = 0b01#2

/-- The registers of the frame decoder: everything it writes but its output (R20 to R30). -/
def sameDecoder (s t : State) : Prop :=
  t.st = s.st ∧ t.k = s.k ∧ t.dev = s.dev ∧ t.fclo = s.fclo ∧ t.sp1 = s.sp1 ∧ t.sp2 = s.sp2 ∧ t.rng = s.rng ∧
    t.dp = s.dp ∧ t.sgn = s.sgn ∧ t.dig = s.dig ∧ t.ovl = s.ovl ∧ t.fchi = s.fchi ∧ t.lkFclo = s.lkFclo ∧
    t.lkFchi = s.lkFchi ∧ t.lkSpecial = s.lkSpecial ∧ t.lkRate = s.lkRate

/-- The registers of the response receiver (R33). -/
def sameReceiver (s t : State) : Prop := t.rbuf = s.rbuf ∧ t.rcnt = s.rcnt

/-- The last-known registers (R30). -/
def sameLastKnown (s t : State) : Prop :=
  t.lkFclo = s.lkFclo ∧ t.lkFchi = s.lkFchi ∧ t.lkSpecial = s.lkSpecial ∧ t.lkRate = s.lkRate

/-- The same state but for the last-known registers. -/
def withLastKnown (s : State) (lo hi : Option Nibble) (special : Option Byte) (rate : Option Logical) : State :=
  { s with lkFclo := lo, lkFchi := hi, lkSpecial := special, lkRate := rate }

end Sys2Proof.Machine
end

