-- ==== Sys2Proof/Certificates/Slice0/Obligations.lean ====
section
/-! DEFINITION. The statements about the block. Each docstring names the rules of spec/ it formalises or rests on. In
them `m` is the masked byte `b & 0x3F` (R51), written `b.extractLsb' 0 6`, and `t` the state that has consumed the
event; a record update says what is written and that nothing else is. -/

open Sys2Proof Sys2Proof.Machine

/-- R101, R103, R104, R105: in AwaitStart a device code starts a slow frame or setting block, a fast candidate starts a
fast frame, and any other byte is discarded. -/
def Obligations.FrameStartRows : Prop :=
  ∀ (s : State) (b : Byte) (rest : List Input), s.configOk → s.inputs = decoderByte b :: rest →
    s.st = .awaitStart → s.k = 0 →
    let m : Logical := b.extractLsb' 0 6
    let t : State := { s with inputs := rest }
    (m ∈ s.cfg.deviceCodes →
      step s = exec (.awaitDev m) t ∧
      exec (.awaitDev m) t = .next { t with dev := m, st := .statusBytes, k := 1, out := .idle }) ∧
    (m.extractLsb' 4 2 = 0b01#2 →
      step s = exec (.awaitFast (m.getLsbD 3) (m.extractLsb' 0 3)) t ∧
      exec (.awaitFast (m.getLsbD 3) (m.extractLsb' 0 3)) t =
        .next { t with dp := m.extractLsb' 0 3, sgn := m.getLsbD 3, ovl := false, st := .digitsFast, k := 0,
                       out := .idle }) ∧
    (¬ startByte s.cfg.deviceCodes m →
      step s = exec (.awaitSkip m) t ∧ exec (.awaitSkip m) t = .next { t with out := .idle })

/-- R106 to R109 (the bit fields are the spec's choice D4 and its derivation in R75): the four status bytes are
captured whatever their class, and the fourth enters the digit phase. -/
def Obligations.StatusByteRows : Prop :=
  ∀ (s : State) (b : Byte) (rest : List Input), s.configOk → s.inputs = decoderByte b :: rest →
    s.st = .statusBytes →
    let m : Logical := b.extractLsb' 0 6
    let t : State := { s with inputs := rest }
    (s.k = 1 →
      step s = exec (.statusFclo (m.extractLsb' 0 4)) t ∧
      exec (.statusFclo (m.extractLsb' 0 4)) t = .next { t with fclo := m.extractLsb' 0 4, k := 2, out := .idle }) ∧
    (s.k = 2 →
      step s = exec (.statusSp1 (m.extractLsb' 0 4)) t ∧
      exec (.statusSp1 (m.extractLsb' 0 4)) t = .next { t with sp1 := m.extractLsb' 0 4, k := 3, out := .idle }) ∧
    (s.k = 3 →
      step s = exec (.statusSp2 (m.extractLsb' 0 4)) t ∧
      exec (.statusSp2 (m.extractLsb' 0 4)) t = .next { t with sp2 := m.extractLsb' 0 4, k := 4, out := .idle }) ∧
    (s.k = 4 →
      step s = exec (.statusRange (m.getLsbD 3) (m.extractLsb' 0 3)) t ∧
      exec (.statusRange (m.getLsbD 3) (m.extractLsb' 0 3)) t =
        .next { t with rng := m.extractLsb' 0 4, dp := m.extractLsb' 0 3, sgn := m.getLsbD 3, ovl := false,
                       st := .digitsSlow, k := 0, out := .idle })

/-- R110 (its commit and its output are the spec's choices D13, D14 and D37): a start byte at the lookahead ends a
setting block, commits what it carries, and is the candidate of the new frame. -/
def Obligations.LookaheadEndsSettingBlock : Prop :=
  ∀ (s : State) (b : Byte) (rest : List Input), s.configOk → s.inputs = decoderByte b :: rest →
    s.st = .digitsSlow → s.k = 0 →
    let m : Logical := b.extractLsb' 0 6
    let t : State := { s with inputs := rest }
    let special : Byte := s.sp1 ++ s.sp2
    let done : Output := .setting { dev := s.dev, fclo := s.fclo, special := special, dp := s.dp, sgn := s.sgn }
    (m ∈ s.cfg.deviceCodes →
      step s = exec (.lookSettingDev m) t ∧
      exec (.lookSettingDev m) t =
        .next { t with lkFclo := some s.fclo, lkSpecial := some special, dev := m, st := .statusBytes, k := 1,
                       out := done }) ∧
    (m.extractLsb' 4 2 = 0b01#2 →
      step s = exec (.lookSettingFast (m.getLsbD 3) (m.extractLsb' 0 3)) t ∧
      exec (.lookSettingFast (m.getLsbD 3) (m.extractLsb' 0 3)) t =
        .next { t with lkFclo := some s.fclo, lkSpecial := some special, dp := m.extractLsb' 0 3,
                       sgn := m.getLsbD 3, ovl := false, st := .digitsFast, k := 0, out := done })

/-- R111, R112: the six slow digits, the first of them the lookahead byte; after the sixth come the trailing fields. -/
def Obligations.SlowDigitRows : Prop :=
  ∀ (s : State) (b : Byte) (rest : List Input), s.configOk → s.inputs = decoderByte b :: rest →
    s.st = .digitsSlow → ¬ startByte s.cfg.deviceCodes (b.extractLsb' 0 6) →
    let m : Logical := b.extractLsb' 0 6
    let t : State := { s with inputs := rest }
    let ovl' : Bool := s.ovl || decide (10 ≤ m.toNat)
    (s.k = 0 →
      step s = exec (.lookDigit m) t ∧
      exec (.lookDigit m) t = .next { t with dig := s.dig.set 0 m, ovl := ovl', k := 1, out := .idle }) ∧
    (∀ i : Fin 6, 1 ≤ i.val → s.k.toNat = i.val →
      step s = exec (.slowDigit m) t ∧
      exec (.slowDigit m) t =
        (if i.val = 5 then
          .next { t with dig := s.dig.set i.val m, ovl := ovl', st := .trailingFields, k := 0, out := .idle }
        else .next { t with dig := s.dig.set i.val m, ovl := ovl', k := s.k + 1, out := .idle }))

/-- R113, R118 (that nothing is committed is D13): a start byte at a later digit position discards the frame and starts
the next one; the last-known registers are unchanged. -/
def Obligations.ResyncRestartsAtStartByte : Prop :=
  ∀ (s : State) (b : Byte) (rest : List Input), s.configOk → s.inputs = decoderByte b :: rest →
    let m : Logical := b.extractLsb' 0 6
    let t : State := { s with inputs := rest }
    let devStart : State := { t with dev := m, st := .statusBytes, k := 1, out := .resync }
    let fastStart : State :=
      { t with dp := m.extractLsb' 0 3, sgn := m.getLsbD 3, ovl := false, st := .digitsFast, k := 0, out := .resync }
    (s.st = .digitsSlow → 1 ≤ s.k.toNat → s.k.toNat ≤ 5 →
      (m ∈ s.cfg.deviceCodes →
        step s = exec (.slowResyncDev m) t ∧ exec (.slowResyncDev m) t = .next devStart) ∧
      (m.extractLsb' 4 2 = 0b01#2 →
        step s = exec (.slowResyncFast (m.getLsbD 3) (m.extractLsb' 0 3)) t ∧
        exec (.slowResyncFast (m.getLsbD 3) (m.extractLsb' 0 3)) t = .next fastStart)) ∧
    (s.st = .digitsFast → s.k.toNat ≤ 4 →
      (m ∈ s.cfg.deviceCodes →
        step s = exec (.fastResyncDev m) t ∧ exec (.fastResyncDev m) t = .next devStart) ∧
      (m.extractLsb' 4 2 = 0b01#2 →
        step s = exec (.fastResyncFast (m.getLsbD 3) (m.extractLsb' 0 3)) t ∧
        exec (.fastResyncFast (m.getLsbD 3) (m.extractLsb' 0 3)) t = .next fastStart))

/-- R114, R115 (the fields' bits and the missing start test are D4, D8 and D11): the two trailing bytes are captured
whatever their class; the second completes the slow frame, commits all four last-known registers and emits the
measurement of R146. -/
def Obligations.TrailingRows : Prop :=
  ∀ (s : State) (b : Byte) (rest : List Input), s.configOk → s.inputs = decoderByte b :: rest →
    s.st = .trailingFields →
    let m : Logical := b.extractLsb' 0 6
    let t : State := { s with inputs := rest }
    (s.k = 0 →
      step s = exec (.trailFchi (m.extractLsb' 0 4)) t ∧
      exec (.trailFchi (m.extractLsb' 0 4)) t = .next { t with fchi := m.extractLsb' 0 4, k := 1, out := .idle }) ∧
    (s.k = 1 →
      step s = exec (.trailRate m) t ∧
      exec (.trailRate m) t =
        .next { t with lkFclo := some s.fclo, lkFchi := some s.fchi, lkSpecial := some (s.sp1 ++ s.sp2),
                       lkRate := some m, st := .awaitStart, k := 0,
                       out := .measurement (assembleSlow s.cfg s.dig.toList s.dp s.sgn s.ovl s.fclo s.fchi s.sp1
                         s.sp2 m) })

/-- R116, R117: the five fast digits; the fifth emits the measurement of R147 with its own overload taken in, and the
last-known registers are read and not written. -/
def Obligations.FastDigitRows : Prop :=
  ∀ (s : State) (b : Byte) (rest : List Input), s.configOk → s.inputs = decoderByte b :: rest →
    s.st = .digitsFast → ¬ startByte s.cfg.deviceCodes (b.extractLsb' 0 6) →
    let m : Logical := b.extractLsb' 0 6
    let t : State := { s with inputs := rest }
    let ovl' : Bool := s.ovl || decide (10 ≤ m.toNat)
    (∀ i : Fin 6, i.val ≤ 3 → s.k.toNat = i.val →
      step s = exec (.fastDigit m) t ∧
      exec (.fastDigit m) t =
        .next { t with dig := s.dig.set i.val m, ovl := ovl', k := s.k + 1, out := .idle }) ∧
    (s.k = 4 →
      step s = exec (.fastLast m) t ∧
      exec (.fastLast m) t =
        .next { t with dig := s.dig.set 4 m, ovl := ovl', st := .awaitStart, k := 0,
                       out := .measurement (assembleFast s.cfg (knownFunctionCode s.lkFclo s.lkFchi) s.lkSpecial
                         s.lkRate [s.dig[0], s.dig[1], s.dig[2], s.dig[3], m] s.dp s.sgn ovl') })

/-- R119, R120 (the state left is D25 and D26): in every decoder state a timeout or an abort returns the decoder to
AwaitStart and changes nothing else; both are reported. -/
def Obligations.DecoderTimeoutAndAbort : Prop :=
  ∀ (s : State) (rest : List Input), s.configOk →
    let t : State := { s with inputs := rest }
    (s.inputs = { owner := .decoder, event := .timeout } :: rest →
      step s = exec .decTimeout t ∧
      exec .decTimeout t = .next { t with st := .awaitStart, k := 0, out := .channelTimeout }) ∧
    (s.inputs = { owner := .decoder, event := .abort } :: rest →
      step s = exec .decAbort t ∧ exec .decAbort t = .next { t with st := .awaitStart, k := 0, out := .aborted })

/-- R181 (no start test in a response is D34): response bytes 0 to 12 are stored in order. -/
def Obligations.ResponseByteStored : Prop :=
  ∀ (s : State) (b : Byte) (rest : List Input), s.configOk → s.inputs = responseByte b :: rest →
    ∀ i : Fin 14, i.val ≤ 12 → s.rcnt.toNat = i.val →
      let m : Logical := b.extractLsb' 0 6
      let t : State := { s with inputs := rest }
      step s = exec (.respByte m) t ∧
      exec (.respByte m) t = .next { t with rbuf := s.rbuf.set i.val m, rcnt := s.rcnt + 1, out := .idle }

/-- R182, R183, R184 (the check equation is D23, the dispatch D24): byte 13 completes the response; the receiver is
empty again; a frame whose checksum fails is reported with no fields, and one that passes is dispatched on R[3]. -/
def Obligations.ResponseCheckedThenDispatched : Prop :=
  ∀ (s : State) (b : Byte) (rest : List Input), s.configOk → s.inputs = responseByte b :: rest → s.rcnt = 13 →
    let m : Logical := b.extractLsb' 0 6
    let t : State := { s with inputs := rest }
    let r : Vector Logical 14 := s.rbuf.set 13 m
    step s = exec (.respLast m) t ∧
    (checksumOf s.cfg.checksumRule (s.rbuf.toList.take 13) ≠ m →
      exec (.respLast m) t = .next { t with rcnt := 0, out := .checksumMismatch }) ∧
    (checksumOf s.cfg.checksumRule (s.rbuf.toList.take 13) = m →
      (lookupFirst s.cfg.respLayout s.rbuf[3] = none →
        exec (.respLast m) t = .next { t with rcnt := 0, out := .response .raw r }) ∧
      (∀ l : Layout, lookupFirst s.cfg.respLayout s.rbuf[3] = some l →
        exec (.respLast m) t = .next { t with rcnt := 0, out := .response (.layout l) r }))

/-- R185 (D25, D26): a timeout or an abort empties the receiver and changes nothing else. -/
def Obligations.ResponseTimeoutAndAbort : Prop :=
  ∀ (s : State) (rest : List Input), s.configOk →
    let t : State := { s with inputs := rest }
    (s.inputs = { owner := .response, event := .timeout } :: rest →
      step s = exec .respTimeout t ∧ exec .respTimeout t = .next { t with rcnt := 0, out := .channelTimeout }) ∧
    (s.inputs = { owner := .response, event := .abort } :: rest →
      step s = exec .respAbort t ∧ exec .respAbort t = .next { t with rcnt := 0, out := .aborted })

/-- R174: an admitted ENCODE builds the fourteen logical bytes, expands them, writes the 42 bytes in one call and emits
Sent; no register changes. -/
def Obligations.EncodeWritesFrame : Prop :=
  ∀ (s : State) (cmd : Nat) (params : List Nat), cmd < 64 → params.length ≤ 9 → (∀ v ∈ params, v < 64) →
    ∃ l : Vector Logical 14,
      exec (.encode cmd params) s =
        .next { s with sink := s.sink ++ [expandFrame s.cfg.nibbleOrder l], out := .sent } ∧
      l[0] = s.cfg.addrFlags ∧ l[1] = s.cfg.mark1 ∧ l[2] = s.cfg.mark2 ∧ l[3].toNat = cmd ∧
      (∀ (i : Nat) (h : i < 9), if hi : i < params.length then l[4 + i].toNat = params[i] else l[4 + i] = s.cfg.fill) ∧
      l[13] = checksumOf s.cfg.checksumRule (l.toList.take 13)

/-- R175, R223 (the refusal is the spec's choice D19): a request with more than nine parameters, or with a value of 64
or more, writes nothing and changes no state. Which reason is recorded is said where only one holds (log 14 for both).
-/
def Obligations.EncodeRefusesOutOfRange : Prop :=
  ∀ (s : State) (cmd : Nat) (params : List Nat), (9 < params.length ∨ 64 ≤ cmd ∨ ∃ v ∈ params, 64 ≤ v) →
    ∃ r : EncodeReason, exec (.encode cmd params) s = .next { s with out := .encodeRefused r } ∧
      (params.length ≤ 9 → r = .valueTooLarge) ∧ (cmd < 64 → (∀ v ∈ params, v < 64) → r = .tooManyParams)

/-- R176: EXPAND turns logical byte j into the three physical bytes of its bit pairs, the low pair first. -/
def Obligations.ExpandPairsInOrder : Prop :=
  ∀ (s : State) (l : Vector Logical 14),
    ∃ p : Vector Byte 42, exec (.expand l) s = .next { s with out := .expanded p } ∧
      ∀ (j : Fin 14) (k : Fin 3),
        p[3 * j.val + k.val] = pairByte s.cfg.nibbleOrder (l[j.val].extractLsb' (2 * k.val) 2)

/-- R82, R177 (which bit drives which nibble is D20): the complete pair-to-byte table, under both orders. -/
def Obligations.PairByteTable : Prop :=
  ∀ s : State,
    exec .pair00 s = .next { s with out := .pairByte 0x00#8 } ∧
    exec .pair11 s = .next { s with out := .pairByte 0xFF#8 } ∧
    (s.cfg.nibbleOrder = .lowbitLownib →
      exec .pair01 s = .next { s with out := .pairByte 0x0F#8 } ∧
      exec .pair10 s = .next { s with out := .pairByte 0xF0#8 }) ∧
    (s.cfg.nibbleOrder = .lowbitHighnib →
      exec .pair01 s = .next { s with out := .pairByte 0xF0#8 } ∧
      exec .pair10 s = .next { s with out := .pairByte 0x0F#8 })

/-- R179, R224 (that such a byte gives Invalid is the spec's choice D21): CONTRACT of a block with a byte none of whose
readings is a nibble flag pair gives Invalid with the lowest such index, and no state changes. -/
def Obligations.ContractNamesFirstBadByte : Prop :=
  ∀ (s : State) (p : Vector Byte 42) (i : Fin 42),
    p[i] ∉ [0x00#8, 0x0F#8, 0xF0#8, 0xFF#8] →
    (∀ j : Fin 42, j < i → p[j] ∈ [0x00#8, 0x0F#8, 0xF0#8, 0xFF#8]) →
    exec (.contract p) s = .next { s with out := .invalid i }

/-- R179 (the treatment of other bytes is D21): a block of canonical bytes contracts to the one logical frame that
expands to it. -/
def Obligations.ContractInvertsCanonicalBlock : Prop :=
  ∀ (s : State) (p : Vector Byte 42), (∀ j : Fin 42, p[j] ∈ [0x00#8, 0x0F#8, 0xF0#8, 0xFF#8]) →
    ∃ l : Vector Logical 14, exec (.contract p) s = .next { s with out := .contracted l } ∧
      expandFrame s.cfg.nibbleOrder l = p

/-- R170, R171: both checksum rows give minus the sum of the thirteen bytes modulo 64. -/
def Obligations.ChecksumRowsNegateSum : Prop :=
  ∀ (s : State) (l : Vector Logical 13),
    ∃ c : Logical, (c.toNat : Int) = (-((l.toList.map BitVec.toNat).sum : Int)) % 64 ∧
      exec (.checksumSub l) s = .next { s with out := .checksum c } ∧
      exec (.checksumAdd l) s = .next { s with out := .checksum c }

/-- R173 (the spec derives it): the CHECKSUM parameter changes no checksum, of any length, and every frame the block
builds sums to 0 modulo 64. -/
def Obligations.ChecksumRulesAgree : Prop :=
  (∀ l : List Logical, checksumSubtract l = checksumAddUp l) ∧
  (∀ (cfg : Config) (cmd : Nat) (params : List Nat),
    ((commandFrame cfg cmd params).toList.map BitVec.toNat).sum % 64 = 0)

/-- R180 (the spec derives it): contraction inverts the expansion of every logical frame, under either nibble order;
and what an admitted ENCODE writes contracts, under the same configuration, to the whole frame of R174, which passes the
checksum. -/
def Obligations.EncodeContractRoundTrip : Prop :=
  (∀ (s : State) (l : Vector Logical 14),
    exec (.contract (expandFrame s.cfg.nibbleOrder l)) s = .next { s with out := .contracted l }) ∧
  (∀ (s t : State) (cmd : Nat) (params : List Nat), cmd < 64 → params.length ≤ 9 → (∀ v ∈ params, v < 64) →
    exec (.encode cmd params) s = .next t →
    ∃ (p : Vector Byte 42) (l : Vector Logical 14), t.sink = s.sink ++ [p] ∧
      exec (.contract p) t = .next { t with out := .contracted l } ∧
      l[0] = s.cfg.addrFlags ∧ l[1] = s.cfg.mark1 ∧ l[2] = s.cfg.mark2 ∧ l[3].toNat = cmd ∧
      (∀ (i : Nat) (h : i < 9), if hi : i < params.length then l[4 + i].toNat = params[i] else l[4 + i] = s.cfg.fill) ∧
      checksumOf s.cfg.checksumRule (l.toList.take 13) = l[13])

/-- R186 (the spec derives it): a response that passes the check fails it after any one of its fourteen bytes is changed
to another value, so RESP.LAST reports ChecksumMismatch. -/
def Obligations.SingleByteCorruptionDetected : Prop :=
  ∀ (s s' : State) (m m' : Logical) (i : Fin 14),
    s'.cfg = s.cfg →
    (s'.rbuf.set 13 m')[i] ≠ (s.rbuf.set 13 m)[i] →
    (∀ j : Fin 14, j ≠ i → (s'.rbuf.set 13 m')[j] = (s.rbuf.set 13 m)[j]) →
    checksumOf s.cfg.checksumRule (s.rbuf.toList.take 13) = m →
    exec (.respLast m') s' = .next { s' with rcnt := 0, out := .checksumMismatch }

/-- R141, R142 (codes of 32 and more are D7; the table and its constraints are R143, R144 and D17): UNIT_CORRECT gives
the label and the corrected position: of the known entry 0x01; of any other code below 32 the label UNIT_LABEL has for
it, or the fallback label where it has none, and the position the kind of DP_CORRECTION gives, Id where it has none; of
a code of 32 or more the fallback label and the raw position; and for the six codes R144 names the positions it gives.
No state changes. That 0x01's entry stands whatever the tables list is log 16, that the six codes are fields of the
configuration log 9. -/
def Obligations.UnitCorrectRow : Prop :=
  ∀ (s : State) (fc : Byte) (dpRaw : BitVec 3), s.configOk →
    ∃ (unit : Text) (dpc : Int), exec (.unitCorrect fc dpRaw) s = .next { s with out := .corrected unit dpc } ∧
      (fc = 0x01#8 → unit = ['V'] ∧ dpc = dpRaw.toNat) ∧
      (fc.toNat < 32 → fc ≠ 0x01#8 →
        let code : BitVec 5 := fc.extractLsb' 0 5
        (∀ l : Text, lookupFirst s.cfg.unitLabel code = some l → unit = l) ∧
        (lookupFirst s.cfg.unitLabel code = none → unit = fallbackLabel s.cfg fc) ∧
        (∀ d : Int, lookupFirst s.cfg.correction code = some (.add d) → dpc = (dpRaw.toNat : Int) + d) ∧
        (∀ c : Int, lookupFirst s.cfg.correction code = some (.const c) → dpc = c) ∧
        (lookupFirst s.cfg.correction code = some .id ∨ lookupFirst s.cfg.correction code = none →
          dpc = dpRaw.toNat)) ∧
      (32 ≤ fc.toNat → unit = fallbackLabel s.cfg fc ∧ dpc = dpRaw.toNat) ∧
      (∀ l : Text, lookupFirst s.cfg.fallbackLabel fc = some l → fallbackLabel s.cfg fc = l) ∧
      (fc.toNat = s.cfg.named.i1.toNat ∨ fc.toNat = s.cfg.named.i2.toNat ∨ fc.toNat = s.cfg.named.c.toNat →
        dpc = (dpRaw.toNat : Int) + 1) ∧
      (fc.toNat = s.cfg.named.dB.toNat → dpc = 3) ∧
      (fc.toNat = s.cfg.named.p1.toNat ∨ fc.toNat = s.cfg.named.p2.toNat → dpc = (dpRaw.toNat : Int) - 2)

/-- R145 (the spec derives it): with the kinds R144 names, the corrected position is in -2..8. -/
def Obligations.CorrectedPositionRange : Prop :=
  ∀ (s t : State) (fc : Byte) (dpRaw : BitVec 3) (unit : Text) (dpc : Int),
    correctionKind s.cfg fc ∈ [Correction.id, .add 1, .add (-2), .const 3] →
    exec (.unitCorrect fc dpRaw) s = .next t → t.out = .corrected unit dpc → -2 ≤ dpc ∧ dpc ≤ 8

/-- R151, R153, with R150's characters and overload: FORMAT of any digits. Overload gives no text; a negative position
puts the point and its zeros before the digits; a position from 1 to n counts digits from the least significant end. A
digit up to 9 prints as its decimal character; the character of a larger one is free (log 12). No state changes. Digits
of 10 or more without overload and digit counts other than R150's five and six are the model's (logs 12, 18, 19). -/
def Obligations.FormatRow : Prop :=
  ∀ (s : State) (d : List Logical) (dp : Int) (sgn ovl : Bool),
    let ds : Text := d.map chrDigit
    let minus : Text := if sgn then ['-'] else []
    (∀ x ∈ d, x.toNat ≤ 9 → chrDigit x = Char.ofNat (48 + x.toNat)) ∧
    ∃ text : Option Text, exec (.format d dp sgn ovl) s = .next { s with out := .formatted text } ∧
      (ovl = true → text = none) ∧
      (ovl = false → dp < 0 → text = some (minus ++ ['.'] ++ List.replicate dp.natAbs '0' ++ ds)) ∧
      (ovl = false → 1 ≤ dp → dp ≤ d.length →
        ∃ before after : Text, text = some (minus ++ before ++ ['.'] ++ after) ∧ before ++ after = ds ∧
          (after.length : Int) = dp)

/-- R152, R154 (both are the spec's choice D16): position 0 puts the point last; a position above n puts it first, with
the missing places filled with zeros. Digits of 10 or more without overload and digit counts other than R150's five and
six are the model's (logs 12, 18, 19). -/
def Obligations.FormatAtTheEdges : Prop :=
  ∀ (s : State) (d : List Logical) (dp : Int) (sgn : Bool),
    let ds : Text := d.map chrDigit
    let minus : Text := if sgn then ['-'] else []
    (dp = 0 → exec (.format d dp sgn false) s = .next { s with out := .formatted (some (minus ++ ds ++ ['.'])) }) ∧
    ((d.length : Int) < dp →
      exec (.format d dp sgn false) s =
        .next { s with out := .formatted (some (minus ++ ['.'] ++ List.replicate (dp - d.length).toNat '0' ++ ds)) })

/-- R155 (the spec derives it): a text of decimal digits has exactly one point, a minus at most at its head, otherwise
digits only; without them it is some zeros and then the input digits in wire order; and positions -j and n + j give the
same text. Digit counts other than R150's five and six are the model's (logs 18, 19). -/
def Obligations.FormatTextShape : Prop :=
  ∀ (d : List Logical) (sgn : Bool), (∀ x ∈ d, x.toNat ≤ 9) →
    (∀ (dp : Int) (text : Text), formatValue d dp sgn false = some text →
      text.count '.' = 1 ∧ (∀ c ∈ text, c = '-' ∨ c = '.' ∨ ∃ n : Nat, n ≤ 9 ∧ c = Char.ofNat (48 + n)) ∧
      text.tail.count '-' = 0 ∧
      ∃ z : Nat, text.filter (fun c => c != '.' && c != '-') =
        List.replicate z '0' ++ d.map fun x => Char.ofNat (48 + x.toNat)) ∧
    (∀ j : Nat, 1 ≤ j → formatValue d (-(j : Int)) sgn false = formatValue d ((d.length : Int) + j) sgn false)

/-- R146: every field of the measurement a slow frame emits, its function code from both nibbles and its position
always corrected. -/
def Obligations.SlowMeasurementFields : Prop :=
  ∀ (s : State) (rate : Logical),
    ∃ (t : State) (m : Measurement), exec (.trailRate rate) s = .next t ∧ t.out = .measurement m ∧
      m.mode = .slow ∧ m.sign = s.sgn ∧ m.digits = s.dig.toList ∧ m.dpRaw = s.dp ∧
      m.functionCode = some (s.fchi ++ s.fclo) ∧
      m.unit = some (correct s.cfg (s.fchi ++ s.fclo) s.dp).1 ∧
      m.decimalPosition = (correct s.cfg (s.fchi ++ s.fclo) s.dp).2 ∧
      m.statusFlags = some (s.sp1 ++ s.sp2) ∧ m.overload = s.ovl ∧ m.rateHint = some rate ∧
      m.text = formatValue s.dig.toList m.decimalPosition s.sgn s.ovl

/-- R147, R140 (the uncorrected position is D15, the combined code D14): the measurement of a fast frame takes code,
flags and rate from the last-known registers; unless both nibbles are known it has no unit and the raw position. -/
def Obligations.FastMeasurementFields : Prop :=
  ∀ (s : State) (d : Logical),
    ∃ (t : State) (m : Measurement), exec (.fastLast d) s = .next t ∧ t.out = .measurement m ∧
      m.mode = .fast ∧ m.sign = s.sgn ∧ m.digits = [s.dig[0], s.dig[1], s.dig[2], s.dig[3], d] ∧ m.dpRaw = s.dp ∧
      m.statusFlags = s.lkSpecial ∧ m.rateHint = s.lkRate ∧
      m.text = formatValue m.digits m.decimalPosition s.sgn m.overload ∧
      (∀ lo hi : Nibble, s.lkFclo = some lo → s.lkFchi = some hi →
        m.functionCode = some (hi ++ lo) ∧ m.unit = some (labelOf s.cfg (hi ++ lo)) ∧
        m.decimalPosition = (correct s.cfg (hi ++ lo) s.dp).2) ∧
      (s.lkFclo = none ∨ s.lkFchi = none →
        m.functionCode = none ∧ m.unit = none ∧ m.decimalPosition = s.dp.toNat)

/-- Decode and encode agree: for every operation, every set of device codes R222 admits, and every position the
operation's row names, the decoder reads the operation back from its encoding. -/
def Obligations.DecodeOfEncode : Prop :=
  ∀ (codes : List Logical) (p : Position) (i : Instr), (∀ c ∈ codes, c.toNat < 16) →
    i.wellFormed codes = true → i.readAt p = true → decode codes p (encode i) = .ok i

/-- What the decoder reads is well formed and belongs where it was read, and its encoding is read there again. -/
def Obligations.DecodeReadsWhatRowsSay : Prop :=
  ∀ (codes : List Logical) (p : Position) (x : Input) (i : Instr), (∀ c ∈ codes, c.toNat < 16) →
    decode codes p x = .ok i →
    i.wellFormed codes = true ∧ i.readAt p = true ∧ decode codes p (encode i) = .ok i

/-- R121 (the spec derives it): from every state that satisfies the invariant, under every configuration R222 admits,
every event has a next state; a FORMAT request has five or six digits (log 19). -/
def Obligations.BlockIsTotal : Prop :=
  ∀ (s : State) (x : Input) (rest : List Input), s.configOk → s.Inv → s.inputs = x :: rest →
    (∀ (d : List Logical) (dp : Int) (sgn ovl : Bool), x.event = .format d dp sgn ovl → d.length = 5 ∨ d.length = 6) →
    ∃ t : State, step s = .next t ∧ t.inputs = rest

/-- A step runs the operation its event decodes to, on the state that has consumed the event. -/
def Obligations.StepRunsDecodedOperation : Prop :=
  ∀ (s : State) (x : Input) (rest : List Input) (i : Instr), s.configOk → s.inputs = x :: rest →
    decode s.cfg.deviceCodes s.position x = .ok i → step s = exec i { s with inputs := rest }

/-- R226 (D36; log 2): with no event the block waits and keeps all its state. -/
def Obligations.StepWaitsWithoutEvent : Prop :=
  ∀ s : State, s.configOk → s.inputs = [] → step s = .next s

/-- Words written out from the spec's encodings decode to what they stand for: R103, R104, R105 at a frame start, R110
and R112 at the digits, R181 at the receiver, R177 and the events. -/
def Obligations.WordsDecodeAsListed : Prop :=
  decode [0x0E#6] ⟨.awaitStart, 0, 0⟩ (decoderByte 0b11001110#8) = .ok (.awaitDev 0b001110#6) ∧
  decode [0x0E#6] ⟨.awaitStart, 0, 0⟩ (decoderByte 0b00011101#8) = .ok (.awaitFast true 0b101#3) ∧
  decode [0x0E#6] ⟨.awaitStart, 0, 0⟩ (decoderByte 0b00111010#8) = .ok (.awaitSkip 0b111010#6) ∧
  decode [0x0E#6] ⟨.digitsSlow, 0, 0⟩ (decoderByte 0b00001110#8) = .ok (.lookSettingDev 0b001110#6) ∧
  decode [0x0E#6] ⟨.digitsSlow, 5, 0⟩ (decoderByte 0b00101010#8) = .ok (.slowDigit 0b101010#6) ∧
  decode [0x0E#6] ⟨.awaitStart, 0, 13⟩ (responseByte 0b01101010#8) = .ok (.respLast 0b101010#6) ∧
  decode [0x0E#6] ⟨.awaitStart, 0, 0⟩ (request (.pair 0b10#2)) = .ok .pair10

/-- R222 (D3, D17; which member is recorded is log 15, what is recorded for the table log 25, that the six codes must
be different log 9): under a configuration with a device code of 0x10 or more every step is refused with such a code;
under one without, whose correction of any of the six codes R144 names is not R144's, or whose six codes are not six,
every step is refused for the table; and every other configuration is admitted: no step is refused as a configuration.
-/
def Obligations.ConfigRefusedExactly : Prop :=
  ∀ s : State,
    let n : NamedCodes := s.cfg.named
    let smallCodes : Prop := ∀ m ∈ s.cfg.deviceCodes, m.toNat < 16
    let kindsRight : Prop :=
      dpCorrection s.cfg n.i1 = .add 1 ∧ dpCorrection s.cfg n.i2 = .add 1 ∧ dpCorrection s.cfg n.c = .add 1 ∧
        dpCorrection s.cfg n.dB = .const 3 ∧ dpCorrection s.cfg n.p1 = .add (-2) ∧ dpCorrection s.cfg n.p2 = .add (-2)
    let different : Prop := [n.i1, n.i2, n.c, n.dB, n.p1, n.p2].Nodup
    (¬ smallCodes → ∃ m ∈ s.cfg.deviceCodes, 16 ≤ m.toNat ∧ step s = .refused (.configRefused (.deviceCode m))) ∧
    (smallCodes → ¬ kindsRight → step s = .refused (.configRefused .correctionTable)) ∧
    (smallCodes → ¬ different → step s = .refused (.configRefused .correctionTable)) ∧
    (smallCodes → kindsRight → different → s.configOk ∧ ∀ e : ConfigError, step s ≠ .refused (.configRefused e))

/-- A byte for a consumer whose position has no row, and a FORMAT request of another digit count, are rejected by name;
so is the digit register that does not exist. The model's own stops (logs 17, 19). -/
def Obligations.RejectionsByName : Prop :=
  ∀ (s : State) (rest : List Input), s.configOk →
    (∀ b : Byte, legalDecoder s.st s.k = false → s.inputs = decoderByte b :: rest →
      step s = .refused (.rejected (.noDecoderRow s.st s.k))) ∧
    (∀ b : Byte, 13 < s.rcnt.toNat → s.inputs = responseByte b :: rest →
      step s = .refused (.rejected (.noResponseRow s.rcnt))) ∧
    (∀ (d : List Logical) (dp : Int) (sgn ovl : Bool), d.length ≠ 5 → d.length ≠ 6 →
      s.inputs = request (.format d dp sgn ovl) :: rest → step s = .refused (.rejected (.digitCount d.length))) ∧
    (∀ d : Logical, 6 ≤ s.k.toNat → exec (.slowDigit d) s = .fault (.noDigitRegister s.k) ∧
      exec (.fastDigit d) s = .fault (.noDigitRegister s.k)) ∧
    (∀ m : Logical, 14 ≤ s.rcnt.toNat → exec (.respByte m) s = .fault (.noResponseRegister s.rcnt))

/-- Every step keeps the invariant: the position stays legal (R21, R33), the overload flag says whether the frame's
digits hold an overload digit (R26), no captured digit is a start byte (R76), `dev` is a device code on the
device-code path (R22), `rng` agrees with `sgn` and `dp` (R24), and the last-known registers are as completed frames
leave them (R30). -/
def Obligations.StepKeepsBlockInvariant : Prop :=
  ∀ s t : State, s.Inv → step s = .next t → t.Inv

/-- The invariant holds right after reset. -/
def Obligations.ResetSatisfiesBlockInvariant : Prop := State.reset.Inv ∧ State.reset.configOk

/-- R35, R67 (D39): no step writes the configuration. -/
def Obligations.StepKeepsConfiguration : Prop := ∀ s t : State, step s = .next t → t.cfg = s.cfg

/-- R65 (D28) and R34: an event of one consumer leaves the other's registers, and a codec or value request leaves
both consumers'. -/
def Obligations.ConsumersDoNotInterfere : Prop :=
  ∀ (s t : State) (x : Input) (rest : List Input), s.inputs = x :: rest → step s = .next t →
    (x.owner = .decoder → sameReceiver s t) ∧ (x.owner = .response → sameDecoder s t) ∧
    ((∀ b, x.event ≠ .byte b) → x.event ≠ .timeout → x.event ≠ .abort → sameDecoder s t ∧ sameReceiver s t)

/-- R51: bits 7:6 of a received byte are never observed, by the decoder or by the receiver. -/
def Obligations.HighBitsUnobserved : Prop :=
  ∀ (s : State) (o : Owner) (b b' : Byte) (rest : List Input), b &&& 0x3F#8 = b' &&& 0x3F#8 →
    step { s with inputs := { owner := o, event := .byte b } :: rest } =
      step { s with inputs := { owner := o, event := .byte b' } :: rest }

/-- R123: a step emits a Measurement only as TRAIL.RATE at the second trailing byte, with six digits, or as FAST.LAST at
the fifth fast digit, with five. -/
def Obligations.NoPartialMeasurement : Prop :=
  ∀ (s t : State) (x : Input) (rest : List Input) (m : Measurement), s.inputs = x :: rest → step s = .next t →
    t.out = .measurement m →
    (s.st = .trailingFields ∧ s.k = 1 ∧ m.mode = .slow ∧ m.digits.length = 6 ∧
      ∃ rate, decode s.cfg.deviceCodes s.position x = .ok (.trailRate rate)) ∨
    (s.st = .digitsFast ∧ s.k = 4 ∧ m.mode = .fast ∧ m.digits.length = 5 ∧
      ∃ d, decode s.cfg.deviceCodes s.position x = .ok (.fastLast d))

/-- R149, with R26 and R150 for the converse: in every state that satisfies the invariant, a measurement is overloaded
exactly when one of its digits is 10 or more, and then, and only then, it has no text; it carries the digits as
received: those captured, and for a fast frame the byte just read, which is its fifth. -/
def Obligations.OverloadGivesNoValue : Prop :=
  ∀ (s t : State) (x : Input) (rest : List Input) (m : Measurement), s.Inv → s.inputs = x :: rest →
    step s = .next t → t.out = .measurement m →
    (m.overload = true ↔ ∃ d ∈ m.digits, 10 ≤ d.toNat) ∧ (m.overload = true ↔ m.text = none) ∧
    (m.mode = .slow → m.digits = capturedDigits s) ∧
    (m.mode = .fast → ∃ b : Byte, x = decoderByte b ∧ m.digits = capturedDigits s ++ [b.extractLsb' 0 6])

/-- R31: a step writes the last-known registers only when it completes a setting block or a slow frame; and with other
last-known values the step gives the same output, and the same state but for those registers, unless the output is a
fast-frame Measurement, and then the next state differs in that output and those registers only. -/
def Obligations.LastKnownHidden : Prop :=
  (∀ s t : State, step s = .next t → ¬ sameLastKnown s t →
    (∃ r : Setting, t.out = .setting r) ∨ ∃ m : Measurement, m.mode = .slow ∧ t.out = .measurement m) ∧
  (∀ (s t : State) (lo hi : Option Nibble) (special : Option Byte) (rate : Option Logical), step s = .next t →
    ∃ t' : State, step (withLastKnown s lo hi special rate) = .next t' ∧
      { withLastKnown t' t.lkFclo t.lkFchi t.lkSpecial t.lkRate with out := t.out } = t ∧
      (t'.out = t.out ∨ ∃ m m' : Measurement, m.mode = .fast ∧ m'.mode = .fast ∧ t.out = .measurement m ∧
        t'.out = .measurement m'))

/-- R215, R218 (D25): a step that reports an error or a cancellation changes nothing but the consumed event, the
output, and the sequencing state of the consumer that raised it, which is idle. -/
def Obligations.ErrorsArePrecise : Prop :=
  ∀ (s t : State) (x : Input) (rest : List Input), s.inputs = x :: rest → step s = .next t →
    t.out ∈ [Output.channelTimeout, .aborted, .checksumMismatch] →
    (x.owner = .decoder ∧ t = { s with inputs := rest, st := .awaitStart, k := 0, out := t.out }) ∨
    (x.owner = .response ∧ t = { s with inputs := rest, rcnt := 0, out := t.out })

/-- R53: what goes to the sink is, per step, nothing or one write: the 42 physical bytes of 14 logical bytes, each
0x00, 0x0F, 0xF0 or 0xFF, and the step that writes says Sent. -/
def Obligations.SinkTakesWireBytesOnly : Prop :=
  ∀ (s t : State) (x : Input) (rest : List Input), s.inputs = x :: rest → step s = .next t →
    (t.sink = s.sink ∧ t.out ≠ .sent) ∨
    (t.out = .sent ∧ ∃ (l : Vector Logical 14) (p : Vector Byte 42), p = expandFrame s.cfg.nibbleOrder l ∧
      t.sink = s.sink ++ [p] ∧ ∀ i : Fin 42, p[i] ∈ [0x00#8, 0x0F#8, 0xF0#8, 0xFF#8])

/-- R240 (D27): what reset leaves in the registers the spec gives a value. The zeros of the others are the model's
(logs 5, 6) and no part of this. -/
def Obligations.ResetRegisterValues : Prop :=
  State.reset.st = .awaitStart ∧ State.reset.k = 0 ∧ State.reset.rcnt = 0 ∧ State.reset.lkFclo = none ∧
    State.reset.lkFchi = none ∧ State.reset.lkSpecial = none ∧ State.reset.lkRate = none

/-- R124, R115 (R124 is the spec's derivation; a digit is the whole masked byte by D9): from every state at a frame
start, the thirteen bytes of a slow frame, whatever its digit values, give twelve Idle steps and then the measurement
of its fields; the registers it commits are the last-known ones, and the block is at a frame start again. -/
def Obligations.SlowFrameRefinesItsBytes : Prop :=
  ∀ (s : State) (dev fc sp1 sp2 rng fchi rate : Byte) (d : Vector Byte 6) (rest : List Input), s.configOk →
    s.st = .awaitStart → s.k = 0 →
    s.inputs = ([dev, fc, sp1, sp2, rng] ++ d.toList ++ [fchi, rate]).map decoderByte ++ rest →
    dev.extractLsb' 0 6 ∈ s.cfg.deviceCodes →
    (∀ i : Fin 6, ¬ startByte s.cfg.deviceCodes (d[i].extractLsb' 0 6)) →
    let digits : List Logical := d.toList.map fun b => b.extractLsb' 0 6
    let overloaded : Bool := digits.any fun v => decide (10 ≤ v.toNat)
    (∀ n : Nat, 1 ≤ n → n ≤ 12 → ∃ u : State, Host.Core.run Sys2Proof.core n s = .next u ∧ u.out = .idle) ∧
    ∃ t : State, Host.Core.run Sys2Proof.core 13 s = .next t ∧ t.inputs = rest ∧ t.st = .awaitStart ∧ t.k = 0 ∧
      t.cfg = s.cfg ∧ t.rbuf = s.rbuf ∧ t.rcnt = s.rcnt ∧ t.sink = s.sink ∧
      t.lkFclo = some (fc.extractLsb' 0 4) ∧ t.lkFchi = some (fchi.extractLsb' 0 4) ∧
      t.lkSpecial = some (sp1.extractLsb' 0 4 ++ sp2.extractLsb' 0 4) ∧ t.lkRate = some (rate.extractLsb' 0 6) ∧
      t.out = .measurement (assembleSlow s.cfg digits (rng.extractLsb' 0 3) (rng.getLsbD 3) overloaded
        (fc.extractLsb' 0 4) (fchi.extractLsb' 0 4) (sp1.extractLsb' 0 4) (sp2.extractLsb' 0 4)
        (rate.extractLsb' 0 6))

/-- R124, R117 (R124 is the spec's derivation; a digit is the whole masked byte by D9, and what a frame with no known
function code carries is D14 and D15): from every state at a frame start, the six bytes of a fast frame give
five Idle steps and then the measurement of its fields with the last-known status, which stays as it was. -/
def Obligations.FastFrameRefinesItsBytes : Prop :=
  ∀ (s : State) (c : Byte) (d : Vector Byte 5) (rest : List Input), s.configOk →
    s.st = .awaitStart → s.k = 0 →
    s.inputs = ([c] ++ d.toList).map decoderByte ++ rest →
    c.extractLsb' 4 2 = 0b01#2 →
    (∀ i : Fin 5, ¬ startByte s.cfg.deviceCodes (d[i].extractLsb' 0 6)) →
    let digits : List Logical := d.toList.map fun b => b.extractLsb' 0 6
    let overloaded : Bool := digits.any fun v => decide (10 ≤ v.toNat)
    (∀ n : Nat, 1 ≤ n → n ≤ 5 → ∃ u : State, Host.Core.run Sys2Proof.core n s = .next u ∧ u.out = .idle) ∧
    ∃ t : State, Host.Core.run Sys2Proof.core 6 s = .next t ∧ t.inputs = rest ∧ t.st = .awaitStart ∧ t.k = 0 ∧
      t.cfg = s.cfg ∧ t.rbuf = s.rbuf ∧ t.rcnt = s.rcnt ∧ t.sink = s.sink ∧ sameLastKnown s t ∧
      t.out = .measurement (assembleFast s.cfg (knownFunctionCode s.lkFclo s.lkFchi) s.lkSpecial s.lkRate digits
        (c.extractLsb' 0 3) (c.getLsbD 3) overloaded)

/-- R122 (D12): the redirections of setting blocks are not bounded: from every state at the lookahead, a device code and
four status bytes give a Setting and lead to the lookahead again. -/
def Obligations.SettingBlocksMayRepeat : Prop :=
  ∀ (s : State) (dev fc sp1 sp2 rng : Byte) (rest : List Input), s.configOk → s.st = .digitsSlow → s.k = 0 →
    s.inputs = [dev, fc, sp1, sp2, rng].map decoderByte ++ rest → dev.extractLsb' 0 6 ∈ s.cfg.deviceCodes →
    (∃ u : State, step s = .next u ∧ ∃ r : Setting, u.out = .setting r) ∧
    ∃ t : State, Host.Core.run Sys2Proof.core 5 s = .next t ∧ t.st = .digitsSlow ∧ t.k = 0 ∧ t.inputs = rest ∧
      t.out = .idle ∧ t.lkFclo = some s.fclo ∧ t.fclo = fc.extractLsb' 0 4

/-- R125: what next_measurement() returns is a Measurement, a ChannelTimeout or an Aborted, the output of the state it
leaves; on an event of the call those three outputs end it, and Idle, Setting and Resync do not. The model's choice
(log 24) is which events are of the call: beside R125's bytes for the decoder, the timeout or abort that comes in their
place, and nothing else. The clause on the events taken and the one that the sink and the receiver stay rest on it. -/
def Obligations.NextMeasurementReturns : Prop :=
  let ofCall : Input → Prop := fun x =>
    (∃ b : Byte, x = decoderByte b) ∨ x = { owner := .decoder, event := .timeout } ∨
      x = { owner := .decoder, event := .abort }
  (∀ (n : Nat) (s t : State) (o : Output), nextMeasurement n s = some (o, t) →
    t.out = o ∧ ((∃ m : Measurement, o = .measurement m) ∨ o = .channelTimeout ∨ o = .aborted) ∧
    (∃ taken : List Input, taken ≠ [] ∧ s.inputs = taken ++ t.inputs ∧ ∀ x ∈ taken, ofCall x) ∧
    t.sink = s.sink ∧ sameReceiver s t) ∧
  (∀ (n : Nat) (s t : State) (x : Input) (rest : List Input), s.inputs = x :: rest → ofCall x → step s = .next t →
    ((∃ m : Measurement, t.out = .measurement m) ∨ t.out = .channelTimeout ∨ t.out = .aborted →
      nextMeasurement (n + 1) s = some (t.out, t)) ∧
    (t.out = .idle ∨ t.out = .resync ∨ (∃ r : Setting, t.out = .setting r) →
      nextMeasurement (n + 1) s = nextMeasurement n t))
end

