-- ==== Sys2Proof/Laws/Bits.lean ====
section
/-! SUPPORT. What the operand forms read, bit by bit: masking, the byte classes, the fields, and that a field placed in
a byte is read back. Facts over 4, 6 or 8 bits are settled by going through the values. -/

namespace Sys2Proof.Machine

theorem maskByte_eq_extract (b : Byte) : maskByte b = b.extractLsb' 0 6 := by
  apply BitVec.eq_of_getLsbD_eq; intro i hi; simp [maskByte, hi]

theorem lowNibble_eq_extract (m : Logical) : lowNibble m = m.extractLsb' 0 4 := by
  apply BitVec.eq_of_getLsbD_eq; intro i hi; simp [lowNibble, hi]

theorem dpField_eq_extract (m : Logical) : dpField m = m.extractLsb' 0 3 := by
  apply BitVec.eq_of_getLsbD_eq; intro i hi; simp [dpField, hi]

theorem isDev_iff {codes : List Logical} {m : Logical} : isDev codes m = true ↔ m ∈ codes := by simp [isDev]

theorem isFast_iff {m : Logical} : isFast m = true ↔ m.extractLsb' 4 2 = 0b01#2 := by simp [isFast]

theorem isStart_iff {codes : List Logical} {m : Logical} :
    isStart codes m = true ↔ m ∈ codes ∨ m.extractLsb' 4 2 = 0b01#2 := by simp [isStart, isDev, isFast]

/-- A fast byte is 0x10 or more, so no admitted device code is one (R70). -/
theorem isFast_ge : ∀ m : Logical, isFast m = true → 16 ≤ m.toNat := by decide

theorem not_fast_of_dev {codes : List Logical} (hc : ∀ c ∈ codes, c.toNat < 16) {m : Logical}
    (h : isDev codes m = true) : isFast m = false := by
  have h1 := hc m (isDev_iff.1 h)
  cases hf : isFast m with
  | false => rfl
  | true => have := isFast_ge m hf; omega

theorem byteClass_dev {codes : List Logical} {m : Logical} (h : isDev codes m = true) : byteClass codes m = .dev := by
  simp [byteClass, h]

theorem byteClass_fast {codes : List Logical} {m : Logical} (hd : isDev codes m = false) (h : isFast m = true) :
    byteClass codes m = .fast := by simp [byteClass, hd, h]

theorem byteClass_other {codes : List Logical} {m : Logical} (h : isStart codes m = false) :
    byteClass codes m = .other := by
  simp only [isStart, Bool.or_eq_false_iff] at h
  simp [byteClass, h.1, h.2]

/-- The three classes, each with what it says of the byte. -/
theorem byteClass_cases (codes : List Logical) (m : Logical) :
    (byteClass codes m = .dev ∧ isDev codes m = true) ∨
      (byteClass codes m = .fast ∧ isDev codes m = false ∧ isFast m = true) ∨
      (byteClass codes m = .other ∧ isStart codes m = false) := by
  unfold byteClass isStart
  cases isDev codes m <;> cases isFast m <;> simp

theorem isFast_fastCandidate : ∀ (sgn : Bool) (dp : BitVec 3), isFast (fastCandidate sgn dp) = true := by decide

theorem signField_fastCandidate : ∀ (sgn : Bool) (dp : BitVec 3), signField (fastCandidate sgn dp) = sgn := by decide

theorem dpField_fastCandidate : ∀ (sgn : Bool) (dp : BitVec 3), dpField (fastCandidate sgn dp) = dp := by decide

/-- A fast byte is the candidate of its own fields (R75, R77). -/
theorem fastCandidate_of_isFast :
    ∀ m : Logical, isFast m = true → fastCandidate (signField m) (dpField m) = m := by decide

theorem rangeNibble_fields : ∀ m : Logical, rangeNibble (signField m) (dpField m) = lowNibble m := by decide

theorem maskByte_setWidth_logical (m : Logical) : maskByte (m.setWidth 8) = m := by
  simp [maskByte, BitVec.setWidth_setWidth_of_le]

theorem lowNibble_maskByte_setWidth (n : Nibble) : lowNibble (maskByte (n.setWidth 8)) = n := by
  simp [lowNibble, maskByte, BitVec.setWidth_setWidth_of_le]

theorem signField_rangeNibble :
    ∀ (sgn : Bool) (dp : BitVec 3), signField (maskByte ((rangeNibble sgn dp).setWidth 8)) = sgn := by decide

theorem dpField_rangeNibble :
    ∀ (sgn : Bool) (dp : BitVec 3), dpField (maskByte ((rangeNibble sgn dp).setWidth 8)) = dp := by decide

/-- The bit pairs of a logical byte put together again (R80). -/
theorem logicalOfPairs_bitPairs : ∀ v : Logical, logicalOfPairs (bitPair v 0) (bitPair v 1) (bitPair v 2) = v := by
  decide

theorem unpairByte_pairByte (order : NibbleOrder) (q : BitVec 2) : unpairByte order (pairByte order q) = q := by
  cases order <;> revert q <;> decide

theorem isWireByte_pairByte (order : NibbleOrder) (q : BitVec 2) : isWireByte (pairByte order q) = true := by
  cases order <;> revert q <;> decide

theorem pairByte_unpairByte (order : NibbleOrder) (b : Byte) (h : isWireByte b = true) :
    pairByte order (unpairByte order b) = b := by
  cases order <;> revert b <;> decide

/-- The four bytes the expansion can produce (R82). -/
theorem isWireByte_iff : ∀ b : Byte, isWireByte b = true ↔ b ∈ [0x00#8, 0x0F#8, 0xF0#8, 0xFF#8] := by decide

end Sys2Proof.Machine
end

