-- ==== Sys2Proof/Laws/Decode.lean ====
section
/-! SUPPORT. What the decoder answers at each position of R102's table, by the class of the byte. -/

namespace Sys2Proof

open Machine

section
variable {codes : List Logical} {m : Logical}

theorem decodeFrameByte_await_dev (h : isDev codes m = true) :
    decodeFrameByte codes .awaitStart 0 m = .ok (.awaitDev m) := by simp [decodeFrameByte, byteClass_dev h]

theorem decodeFrameByte_await_fast (hd : isDev codes m = false) (h : isFast m = true) :
    decodeFrameByte codes .awaitStart 0 m = .ok (.awaitFast (signField m) (dpField m)) := by
  simp [decodeFrameByte, byteClass_fast hd h]

theorem decodeFrameByte_await_other (h : isStart codes m = false) :
    decodeFrameByte codes .awaitStart 0 m = .ok (.awaitSkip m) := by simp [decodeFrameByte, byteClass_other h]

theorem decodeFrameByte_status_1 :
    decodeFrameByte codes .statusBytes 1 m = .ok (.statusFclo (lowNibble m)) := by simp [decodeFrameByte]

theorem decodeFrameByte_status_2 :
    decodeFrameByte codes .statusBytes 2 m = .ok (.statusSp1 (lowNibble m)) := by simp [decodeFrameByte]

theorem decodeFrameByte_status_3 :
    decodeFrameByte codes .statusBytes 3 m = .ok (.statusSp2 (lowNibble m)) := by simp [decodeFrameByte]

theorem decodeFrameByte_status_4 :
    decodeFrameByte codes .statusBytes 4 m = .ok (.statusRange (signField m) (dpField m)) := by simp [decodeFrameByte]

theorem decodeFrameByte_look_dev (h : isDev codes m = true) :
    decodeFrameByte codes .digitsSlow 0 m = .ok (.lookSettingDev m) := by simp [decodeFrameByte, byteClass_dev h]

theorem decodeFrameByte_look_fast (hd : isDev codes m = false) (h : isFast m = true) :
    decodeFrameByte codes .digitsSlow 0 m = .ok (.lookSettingFast (signField m) (dpField m)) := by
  simp [decodeFrameByte, byteClass_fast hd h]

theorem decodeFrameByte_look_other (h : isStart codes m = false) :
    decodeFrameByte codes .digitsSlow 0 m = .ok (.lookDigit m) := by simp [decodeFrameByte, byteClass_other h]

theorem decodeFrameByte_slow_dev {k : BitVec 3} (h1 : 1 ≤ k.toNat) (h5 : k.toNat ≤ 5) (h : isDev codes m = true) :
    decodeFrameByte codes .digitsSlow k m = .ok (.slowResyncDev m) := by
  have h0 : k ≠ 0#3 := by rintro rfl; simp at h1
  simp [decodeFrameByte, byteClass_dev h, h0, h5]

theorem decodeFrameByte_slow_fast {k : BitVec 3} (h1 : 1 ≤ k.toNat) (h5 : k.toNat ≤ 5) (hd : isDev codes m = false)
    (h : isFast m = true) :
    decodeFrameByte codes .digitsSlow k m = .ok (.slowResyncFast (signField m) (dpField m)) := by
  have h0 : k ≠ 0#3 := by rintro rfl; simp at h1
  simp [decodeFrameByte, byteClass_fast hd h, h0, h5]

theorem decodeFrameByte_slow_other {k : BitVec 3} (h1 : 1 ≤ k.toNat) (h5 : k.toNat ≤ 5)
    (h : isStart codes m = false) : decodeFrameByte codes .digitsSlow k m = .ok (.slowDigit m) := by
  have h0 : k ≠ 0#3 := by rintro rfl; simp at h1
  simp [decodeFrameByte, byteClass_other h, h0, h5]

theorem decodeFrameByte_trail_0 :
    decodeFrameByte codes .trailingFields 0 m = .ok (.trailFchi (lowNibble m)) := by simp [decodeFrameByte]

theorem decodeFrameByte_trail_1 : decodeFrameByte codes .trailingFields 1 m = .ok (.trailRate m) := by
  simp [decodeFrameByte]

theorem decodeFrameByte_fast_dev {k : BitVec 3} (h4 : k.toNat ≤ 4) (h : isDev codes m = true) :
    decodeFrameByte codes .digitsFast k m = .ok (.fastResyncDev m) := by simp [decodeFrameByte, byteClass_dev h, h4]

theorem decodeFrameByte_fast_fast {k : BitVec 3} (h4 : k.toNat ≤ 4) (hd : isDev codes m = false)
    (h : isFast m = true) :
    decodeFrameByte codes .digitsFast k m = .ok (.fastResyncFast (signField m) (dpField m)) := by
  simp [decodeFrameByte, byteClass_fast hd h, h4]

theorem decodeFrameByte_fast_digit {k : BitVec 3} (h3 : k.toNat ≤ 3) (h : isStart codes m = false) :
    decodeFrameByte codes .digitsFast k m = .ok (.fastDigit m) := by
  have h4 : k ≠ 4#3 := by rintro rfl; simp at h3
  have h4' : k.toNat ≤ 4 := by omega
  simp [decodeFrameByte, byteClass_other h, h4, h4']

theorem decodeFrameByte_fast_last (h : isStart codes m = false) :
    decodeFrameByte codes .digitsFast 4 m = .ok (.fastLast m) := by simp [decodeFrameByte, byteClass_other h]

theorem decodeResponseByte_early {rcnt : BitVec 4} (h : rcnt.toNat ≤ 12) :
    decodeResponseByte rcnt m = .ok (.respByte m) := by simp [decodeResponseByte, h]

theorem decodeResponseByte_last : decodeResponseByte 13 m = .ok (.respLast m) := by simp [decodeResponseByte]

end

/-- A byte event is read by the consumer its owner names (R65). -/
theorem decode_decoderByte (codes : List Logical) (p : Position) (b : Byte) :
    decode codes p (decoderByte b) = decodeFrameByte codes p.st p.k (maskByte b) := rfl

theorem decode_responseByte (codes : List Logical) (p : Position) (b : Byte) :
    decode codes p (responseByte b) = decodeResponseByte p.rcnt (maskByte b) := rfl

/-- Everything a byte given to the frame decoder can be (R102): the position, the class and the operation. -/
theorem decodeFrameByte_cases {codes : List Logical} {st : Phase} {k : BitVec 3} {m : Logical} {i : Instr}
    (h : decodeFrameByte codes st k m = .ok i) :
    (st = .awaitStart ∧ k = 0 ∧
      ((isDev codes m = true ∧ i = .awaitDev m) ∨
        (isFast m = true ∧ i = .awaitFast (signField m) (dpField m)) ∨
        (isStart codes m = false ∧ i = .awaitSkip m))) ∨
    (st = .statusBytes ∧
      ((k = 1 ∧ i = .statusFclo (lowNibble m)) ∨ (k = 2 ∧ i = .statusSp1 (lowNibble m)) ∨
        (k = 3 ∧ i = .statusSp2 (lowNibble m)) ∨ (k = 4 ∧ i = .statusRange (signField m) (dpField m)))) ∨
    (st = .digitsSlow ∧ k = 0 ∧
      ((isDev codes m = true ∧ i = .lookSettingDev m) ∨
        (isFast m = true ∧ i = .lookSettingFast (signField m) (dpField m)) ∨
        (isStart codes m = false ∧ i = .lookDigit m))) ∨
    (st = .digitsSlow ∧ 1 ≤ k.toNat ∧ k.toNat ≤ 5 ∧
      ((isDev codes m = true ∧ i = .slowResyncDev m) ∨
        (isFast m = true ∧ i = .slowResyncFast (signField m) (dpField m)) ∨
        (isStart codes m = false ∧ i = .slowDigit m))) ∨
    (st = .trailingFields ∧ ((k = 0 ∧ i = .trailFchi (lowNibble m)) ∨ (k = 1 ∧ i = .trailRate m))) ∨
    (st = .digitsFast ∧ k.toNat ≤ 4 ∧
      ((isDev codes m = true ∧ i = .fastResyncDev m) ∨
        (isFast m = true ∧ i = .fastResyncFast (signField m) (dpField m)) ∨
        (isStart codes m = false ∧ k.toNat ≤ 3 ∧ i = .fastDigit m) ∨
        (isStart codes m = false ∧ k = 4 ∧ i = .fastLast m))) := by
  have hk : k = 0#3 ∨ k = 1#3 ∨ k = 2#3 ∨ k = 3#3 ∨ k = 4#3 ∨ k = 5#3 ∨ k = 6#3 ∨ k = 7#3 := by
    clear h; revert k; decide
  rcases byteClass_cases codes m with ⟨hc, h1⟩ | ⟨hc, h1, h2⟩ | ⟨hc, h1⟩ <;>
    cases st <;> rcases hk with rfl | rfl | rfl | rfl | rfl | rfl | rfl | rfl <;>
    simp [decodeFrameByte, hc] at h <;> subst h <;> simp_all

/-- Everything a byte given to the receiver can be (R181, R182). -/
theorem decodeResponseByte_cases {rcnt : BitVec 4} {m : Logical} {i : Instr}
    (h : decodeResponseByte rcnt m = .ok i) :
    (rcnt.toNat ≤ 12 ∧ i = .respByte m) ∨ (rcnt = 13 ∧ i = .respLast m) := by
  unfold decodeResponseByte at h
  split at h
  · exact .inl ⟨‹_›, by cases h; rfl⟩
  · split at h
    · exact .inr ⟨‹_›, by cases h; rfl⟩
    · cases h

/-- The four pair rows, each with its pair (R177). -/
theorem decodePair_cases (q : BitVec 2) :
    (q = 0b00#2 ∧ decodePair q = .pair00) ∨ (q = 0b01#2 ∧ decodePair q = .pair01) ∨
      (q = 0b10#2 ∧ decodePair q = .pair10) ∨ (q = 0b11#2 ∧ decodePair q = .pair11) := by
  revert q; decide

end Sys2Proof
end

