-- ==== Sys2Proof/Laws/HostCall.lean ====
section
/-! SUPPORT. What the next_measurement loop takes, what ends it, and its unfolding at one step (R125). -/

namespace Sys2Proof.Machine

/-- The call takes a byte for the decoder, a timeout of the decoder and an abort of the decoder. -/
theorem callEvent_iff {x : Input} :
    callEvent x = true ↔ (∃ b, x = decoderByte b) ∨ x = { owner := .decoder, event := .timeout } ∨
      x = { owner := .decoder, event := .abort } := by
  obtain ⟨o, e⟩ := x
  cases o <;> cases e <;> simp [callEvent, decoderByte]

/-- A Measurement, a ChannelTimeout and an Aborted end the call. -/
theorem endsCall_iff {o : Output} :
    endsCall o = true ↔ (∃ m, o = .measurement m) ∨ o = .channelTimeout ∨ o = .aborted := by
  cases o <;> simp [endsCall]

/-- One step of the call, on an event of its own that has a next state. -/
theorem nextMeasurement_of_next {n : Nat} {s t : State} {x : Input} {rest : List Input} (hi : s.inputs = x :: rest)
    (hx : callEvent x = true) (h : step s = .next t) :
    nextMeasurement (n + 1) s = if endsCall t.out then some (t.out, t) else nextMeasurement n t := by
  simp [nextMeasurement, hi, hx, h]

/-- If the call returns after at most n + 1 steps, it took an event of its own, and either that step's output ended it
or the rest of the call returned. -/
theorem nextMeasurement_succ_cases {n : Nat} {s u : State} {o : Output}
    (h : nextMeasurement (n + 1) s = some (o, u)) :
    ∃ x rest t, s.inputs = x :: rest ∧ callEvent x = true ∧ step s = .next t ∧
      ((endsCall t.out = true ∧ o = t.out ∧ u = t) ∨ (endsCall t.out = false ∧ nextMeasurement n t = some (o, u))) := by
  cases hi : s.inputs with
  | nil => simp [nextMeasurement, hi] at h
  | cons x rest =>
    cases hx : callEvent x with
    | false => simp [nextMeasurement, hi, hx] at h
    | true =>
      cases hs : step s with
      | fault r => simp [nextMeasurement, hi, hx, hs] at h
      | refused r => simp [nextMeasurement, hi, hx, hs] at h
      | next t =>
        rw [nextMeasurement_of_next hi hx hs] at h
        cases he : endsCall t.out with
        | true => simp [he] at h; exact ⟨x, rest, t, rfl, hx, rfl, .inl ⟨he, h.1.symm, h.2.symm⟩⟩
        | false => simp [he] at h; exact ⟨x, rest, t, rfl, hx, rfl, .inr ⟨he, h⟩⟩

end Sys2Proof.Machine
end

