-- ==== Sys2Proof/Laws/State.lean ====
section
/-! SUPPORT. One lemma per register per shared operation of Machine/Ops.lean, each true by rfl: what the operation
writes and that it leaves every other register as it was. -/

namespace Sys2Proof.Machine

section
variable (s : State) (o : Output)

@[simp] theorem State.emit_cfg : (s.emit o).cfg = s.cfg := rfl
@[simp] theorem State.emit_inputs : (s.emit o).inputs = s.inputs := rfl
@[simp] theorem State.emit_st : (s.emit o).st = s.st := rfl
@[simp] theorem State.emit_k : (s.emit o).k = s.k := rfl
@[simp] theorem State.emit_dev : (s.emit o).dev = s.dev := rfl
@[simp] theorem State.emit_fclo : (s.emit o).fclo = s.fclo := rfl
@[simp] theorem State.emit_sp1 : (s.emit o).sp1 = s.sp1 := rfl
@[simp] theorem State.emit_sp2 : (s.emit o).sp2 = s.sp2 := rfl
@[simp] theorem State.emit_rng : (s.emit o).rng = s.rng := rfl
@[simp] theorem State.emit_dp : (s.emit o).dp = s.dp := rfl
@[simp] theorem State.emit_sgn : (s.emit o).sgn = s.sgn := rfl
@[simp] theorem State.emit_dig : (s.emit o).dig = s.dig := rfl
@[simp] theorem State.emit_ovl : (s.emit o).ovl = s.ovl := rfl
@[simp] theorem State.emit_fchi : (s.emit o).fchi = s.fchi := rfl
@[simp] theorem State.emit_lkFclo : (s.emit o).lkFclo = s.lkFclo := rfl
@[simp] theorem State.emit_lkFchi : (s.emit o).lkFchi = s.lkFchi := rfl
@[simp] theorem State.emit_lkSpecial : (s.emit o).lkSpecial = s.lkSpecial := rfl
@[simp] theorem State.emit_lkRate : (s.emit o).lkRate = s.lkRate := rfl
@[simp] theorem State.emit_rbuf : (s.emit o).rbuf = s.rbuf := rfl
@[simp] theorem State.emit_rcnt : (s.emit o).rcnt = s.rcnt := rfl
@[simp] theorem State.emit_out : (s.emit o).out = o := rfl
@[simp] theorem State.emit_sink : (s.emit o).sink = s.sink := rfl

end

section
variable (s : State) (st : Phase) (k : BitVec 3)

@[simp] theorem State.goTo_cfg : (s.goTo st k).cfg = s.cfg := rfl
@[simp] theorem State.goTo_inputs : (s.goTo st k).inputs = s.inputs := rfl
@[simp] theorem State.goTo_st : (s.goTo st k).st = st := rfl
@[simp] theorem State.goTo_k : (s.goTo st k).k = k := rfl
@[simp] theorem State.goTo_dev : (s.goTo st k).dev = s.dev := rfl
@[simp] theorem State.goTo_fclo : (s.goTo st k).fclo = s.fclo := rfl
@[simp] theorem State.goTo_sp1 : (s.goTo st k).sp1 = s.sp1 := rfl
@[simp] theorem State.goTo_sp2 : (s.goTo st k).sp2 = s.sp2 := rfl
@[simp] theorem State.goTo_rng : (s.goTo st k).rng = s.rng := rfl
@[simp] theorem State.goTo_dp : (s.goTo st k).dp = s.dp := rfl
@[simp] theorem State.goTo_sgn : (s.goTo st k).sgn = s.sgn := rfl
@[simp] theorem State.goTo_dig : (s.goTo st k).dig = s.dig := rfl
@[simp] theorem State.goTo_ovl : (s.goTo st k).ovl = s.ovl := rfl
@[simp] theorem State.goTo_fchi : (s.goTo st k).fchi = s.fchi := rfl
@[simp] theorem State.goTo_lkFclo : (s.goTo st k).lkFclo = s.lkFclo := rfl
@[simp] theorem State.goTo_lkFchi : (s.goTo st k).lkFchi = s.lkFchi := rfl
@[simp] theorem State.goTo_lkSpecial : (s.goTo st k).lkSpecial = s.lkSpecial := rfl
@[simp] theorem State.goTo_lkRate : (s.goTo st k).lkRate = s.lkRate := rfl
@[simp] theorem State.goTo_rbuf : (s.goTo st k).rbuf = s.rbuf := rfl
@[simp] theorem State.goTo_rcnt : (s.goTo st k).rcnt = s.rcnt := rfl
@[simp] theorem State.goTo_out : (s.goTo st k).out = s.out := rfl
@[simp] theorem State.goTo_sink : (s.goTo st k).sink = s.sink := rfl

end

section
variable (s : State) (m : Logical)

@[simp] theorem State.beginDevice_cfg : (s.beginDevice m).cfg = s.cfg := rfl
@[simp] theorem State.beginDevice_inputs : (s.beginDevice m).inputs = s.inputs := rfl
@[simp] theorem State.beginDevice_st : (s.beginDevice m).st = .statusBytes := rfl
@[simp] theorem State.beginDevice_k : (s.beginDevice m).k = 1 := rfl
@[simp] theorem State.beginDevice_dev : (s.beginDevice m).dev = m := rfl
@[simp] theorem State.beginDevice_fclo : (s.beginDevice m).fclo = s.fclo := rfl
@[simp] theorem State.beginDevice_sp1 : (s.beginDevice m).sp1 = s.sp1 := rfl
@[simp] theorem State.beginDevice_sp2 : (s.beginDevice m).sp2 = s.sp2 := rfl
@[simp] theorem State.beginDevice_rng : (s.beginDevice m).rng = s.rng := rfl
@[simp] theorem State.beginDevice_dp : (s.beginDevice m).dp = s.dp := rfl
@[simp] theorem State.beginDevice_sgn : (s.beginDevice m).sgn = s.sgn := rfl
@[simp] theorem State.beginDevice_dig : (s.beginDevice m).dig = s.dig := rfl
@[simp] theorem State.beginDevice_ovl : (s.beginDevice m).ovl = s.ovl := rfl
@[simp] theorem State.beginDevice_fchi : (s.beginDevice m).fchi = s.fchi := rfl
@[simp] theorem State.beginDevice_lkFclo : (s.beginDevice m).lkFclo = s.lkFclo := rfl
@[simp] theorem State.beginDevice_lkFchi : (s.beginDevice m).lkFchi = s.lkFchi := rfl
@[simp] theorem State.beginDevice_lkSpecial : (s.beginDevice m).lkSpecial = s.lkSpecial := rfl
@[simp] theorem State.beginDevice_lkRate : (s.beginDevice m).lkRate = s.lkRate := rfl
@[simp] theorem State.beginDevice_rbuf : (s.beginDevice m).rbuf = s.rbuf := rfl
@[simp] theorem State.beginDevice_rcnt : (s.beginDevice m).rcnt = s.rcnt := rfl
@[simp] theorem State.beginDevice_out : (s.beginDevice m).out = s.out := rfl
@[simp] theorem State.beginDevice_sink : (s.beginDevice m).sink = s.sink := rfl

end

section
variable (s : State) (sgn : Bool) (dp : BitVec 3)

@[simp] theorem State.beginFast_cfg : (s.beginFast sgn dp).cfg = s.cfg := rfl
@[simp] theorem State.beginFast_inputs : (s.beginFast sgn dp).inputs = s.inputs := rfl
@[simp] theorem State.beginFast_st : (s.beginFast sgn dp).st = .digitsFast := rfl
@[simp] theorem State.beginFast_k : (s.beginFast sgn dp).k = 0 := rfl
@[simp] theorem State.beginFast_dev : (s.beginFast sgn dp).dev = s.dev := rfl
@[simp] theorem State.beginFast_fclo : (s.beginFast sgn dp).fclo = s.fclo := rfl
@[simp] theorem State.beginFast_sp1 : (s.beginFast sgn dp).sp1 = s.sp1 := rfl
@[simp] theorem State.beginFast_sp2 : (s.beginFast sgn dp).sp2 = s.sp2 := rfl
@[simp] theorem State.beginFast_rng : (s.beginFast sgn dp).rng = s.rng := rfl
@[simp] theorem State.beginFast_dp : (s.beginFast sgn dp).dp = dp := rfl
@[simp] theorem State.beginFast_sgn : (s.beginFast sgn dp).sgn = sgn := rfl
@[simp] theorem State.beginFast_dig : (s.beginFast sgn dp).dig = s.dig := rfl
@[simp] theorem State.beginFast_ovl : (s.beginFast sgn dp).ovl = false := rfl
@[simp] theorem State.beginFast_fchi : (s.beginFast sgn dp).fchi = s.fchi := rfl
@[simp] theorem State.beginFast_lkFclo : (s.beginFast sgn dp).lkFclo = s.lkFclo := rfl
@[simp] theorem State.beginFast_lkFchi : (s.beginFast sgn dp).lkFchi = s.lkFchi := rfl
@[simp] theorem State.beginFast_lkSpecial : (s.beginFast sgn dp).lkSpecial = s.lkSpecial := rfl
@[simp] theorem State.beginFast_lkRate : (s.beginFast sgn dp).lkRate = s.lkRate := rfl
@[simp] theorem State.beginFast_rbuf : (s.beginFast sgn dp).rbuf = s.rbuf := rfl
@[simp] theorem State.beginFast_rcnt : (s.beginFast sgn dp).rcnt = s.rcnt := rfl
@[simp] theorem State.beginFast_out : (s.beginFast sgn dp).out = s.out := rfl
@[simp] theorem State.beginFast_sink : (s.beginFast sgn dp).sink = s.sink := rfl

end

section
variable (s : State) (sgn : Bool) (dp : BitVec 3)

@[simp] theorem State.captureRange_cfg : (s.captureRange sgn dp).cfg = s.cfg := rfl
@[simp] theorem State.captureRange_inputs : (s.captureRange sgn dp).inputs = s.inputs := rfl
@[simp] theorem State.captureRange_st : (s.captureRange sgn dp).st = .digitsSlow := rfl
@[simp] theorem State.captureRange_k : (s.captureRange sgn dp).k = 0 := rfl
@[simp] theorem State.captureRange_dev : (s.captureRange sgn dp).dev = s.dev := rfl
@[simp] theorem State.captureRange_fclo : (s.captureRange sgn dp).fclo = s.fclo := rfl
@[simp] theorem State.captureRange_sp1 : (s.captureRange sgn dp).sp1 = s.sp1 := rfl
@[simp] theorem State.captureRange_sp2 : (s.captureRange sgn dp).sp2 = s.sp2 := rfl
@[simp] theorem State.captureRange_rng : (s.captureRange sgn dp).rng = rangeNibble sgn dp := rfl
@[simp] theorem State.captureRange_dp : (s.captureRange sgn dp).dp = dp := rfl
@[simp] theorem State.captureRange_sgn : (s.captureRange sgn dp).sgn = sgn := rfl
@[simp] theorem State.captureRange_dig : (s.captureRange sgn dp).dig = s.dig := rfl
@[simp] theorem State.captureRange_ovl : (s.captureRange sgn dp).ovl = false := rfl
@[simp] theorem State.captureRange_fchi : (s.captureRange sgn dp).fchi = s.fchi := rfl
@[simp] theorem State.captureRange_lkFclo : (s.captureRange sgn dp).lkFclo = s.lkFclo := rfl
@[simp] theorem State.captureRange_lkFchi : (s.captureRange sgn dp).lkFchi = s.lkFchi := rfl
@[simp] theorem State.captureRange_lkSpecial : (s.captureRange sgn dp).lkSpecial = s.lkSpecial := rfl
@[simp] theorem State.captureRange_lkRate : (s.captureRange sgn dp).lkRate = s.lkRate := rfl
@[simp] theorem State.captureRange_rbuf : (s.captureRange sgn dp).rbuf = s.rbuf := rfl
@[simp] theorem State.captureRange_rcnt : (s.captureRange sgn dp).rcnt = s.rcnt := rfl
@[simp] theorem State.captureRange_out : (s.captureRange sgn dp).out = s.out := rfl
@[simp] theorem State.captureRange_sink : (s.captureRange sgn dp).sink = s.sink := rfl

end

section
variable (s : State) (i : Fin 6) (m : Logical)

@[simp] theorem State.captureDigit_cfg : (s.captureDigit i m).cfg = s.cfg := rfl
@[simp] theorem State.captureDigit_inputs : (s.captureDigit i m).inputs = s.inputs := rfl
@[simp] theorem State.captureDigit_st : (s.captureDigit i m).st = s.st := rfl
@[simp] theorem State.captureDigit_k : (s.captureDigit i m).k = s.k := rfl
@[simp] theorem State.captureDigit_dev : (s.captureDigit i m).dev = s.dev := rfl
@[simp] theorem State.captureDigit_fclo : (s.captureDigit i m).fclo = s.fclo := rfl
@[simp] theorem State.captureDigit_sp1 : (s.captureDigit i m).sp1 = s.sp1 := rfl
@[simp] theorem State.captureDigit_sp2 : (s.captureDigit i m).sp2 = s.sp2 := rfl
@[simp] theorem State.captureDigit_rng : (s.captureDigit i m).rng = s.rng := rfl
@[simp] theorem State.captureDigit_dp : (s.captureDigit i m).dp = s.dp := rfl
@[simp] theorem State.captureDigit_sgn : (s.captureDigit i m).sgn = s.sgn := rfl
@[simp] theorem State.captureDigit_dig : (s.captureDigit i m).dig = s.dig.set i.val m := rfl
@[simp] theorem State.captureDigit_ovl : (s.captureDigit i m).ovl = overloadAfter s.ovl m := rfl
@[simp] theorem State.captureDigit_fchi : (s.captureDigit i m).fchi = s.fchi := rfl
@[simp] theorem State.captureDigit_lkFclo : (s.captureDigit i m).lkFclo = s.lkFclo := rfl
@[simp] theorem State.captureDigit_lkFchi : (s.captureDigit i m).lkFchi = s.lkFchi := rfl
@[simp] theorem State.captureDigit_lkSpecial : (s.captureDigit i m).lkSpecial = s.lkSpecial := rfl
@[simp] theorem State.captureDigit_lkRate : (s.captureDigit i m).lkRate = s.lkRate := rfl
@[simp] theorem State.captureDigit_rbuf : (s.captureDigit i m).rbuf = s.rbuf := rfl
@[simp] theorem State.captureDigit_rcnt : (s.captureDigit i m).rcnt = s.rcnt := rfl
@[simp] theorem State.captureDigit_out : (s.captureDigit i m).out = s.out := rfl
@[simp] theorem State.captureDigit_sink : (s.captureDigit i m).sink = s.sink := rfl

end

section
variable (s : State)

@[simp] theorem State.commitSetting_cfg : (s.commitSetting).cfg = s.cfg := rfl
@[simp] theorem State.commitSetting_inputs : (s.commitSetting).inputs = s.inputs := rfl
@[simp] theorem State.commitSetting_st : (s.commitSetting).st = s.st := rfl
@[simp] theorem State.commitSetting_k : (s.commitSetting).k = s.k := rfl
@[simp] theorem State.commitSetting_dev : (s.commitSetting).dev = s.dev := rfl
@[simp] theorem State.commitSetting_fclo : (s.commitSetting).fclo = s.fclo := rfl
@[simp] theorem State.commitSetting_sp1 : (s.commitSetting).sp1 = s.sp1 := rfl
@[simp] theorem State.commitSetting_sp2 : (s.commitSetting).sp2 = s.sp2 := rfl
@[simp] theorem State.commitSetting_rng : (s.commitSetting).rng = s.rng := rfl
@[simp] theorem State.commitSetting_dp : (s.commitSetting).dp = s.dp := rfl
@[simp] theorem State.commitSetting_sgn : (s.commitSetting).sgn = s.sgn := rfl
@[simp] theorem State.commitSetting_dig : (s.commitSetting).dig = s.dig := rfl
@[simp] theorem State.commitSetting_ovl : (s.commitSetting).ovl = s.ovl := rfl
@[simp] theorem State.commitSetting_fchi : (s.commitSetting).fchi = s.fchi := rfl
@[simp] theorem State.commitSetting_lkFclo : (s.commitSetting).lkFclo = some s.fclo := rfl
@[simp] theorem State.commitSetting_lkFchi : (s.commitSetting).lkFchi = s.lkFchi := rfl
@[simp] theorem State.commitSetting_lkSpecial : (s.commitSetting).lkSpecial = some (specialField s.sp1 s.sp2) := rfl
@[simp] theorem State.commitSetting_lkRate : (s.commitSetting).lkRate = s.lkRate := rfl
@[simp] theorem State.commitSetting_rbuf : (s.commitSetting).rbuf = s.rbuf := rfl
@[simp] theorem State.commitSetting_rcnt : (s.commitSetting).rcnt = s.rcnt := rfl
@[simp] theorem State.commitSetting_out : (s.commitSetting).out = s.out := rfl
@[simp] theorem State.commitSetting_sink : (s.commitSetting).sink = s.sink := rfl

end

section
variable (s : State) (rate : Logical)

@[simp] theorem State.commitSlow_cfg : (s.commitSlow rate).cfg = s.cfg := rfl
@[simp] theorem State.commitSlow_inputs : (s.commitSlow rate).inputs = s.inputs := rfl
@[simp] theorem State.commitSlow_st : (s.commitSlow rate).st = s.st := rfl
@[simp] theorem State.commitSlow_k : (s.commitSlow rate).k = s.k := rfl
@[simp] theorem State.commitSlow_dev : (s.commitSlow rate).dev = s.dev := rfl
@[simp] theorem State.commitSlow_fclo : (s.commitSlow rate).fclo = s.fclo := rfl
@[simp] theorem State.commitSlow_sp1 : (s.commitSlow rate).sp1 = s.sp1 := rfl
@[simp] theorem State.commitSlow_sp2 : (s.commitSlow rate).sp2 = s.sp2 := rfl
@[simp] theorem State.commitSlow_rng : (s.commitSlow rate).rng = s.rng := rfl
@[simp] theorem State.commitSlow_dp : (s.commitSlow rate).dp = s.dp := rfl
@[simp] theorem State.commitSlow_sgn : (s.commitSlow rate).sgn = s.sgn := rfl
@[simp] theorem State.commitSlow_dig : (s.commitSlow rate).dig = s.dig := rfl
@[simp] theorem State.commitSlow_ovl : (s.commitSlow rate).ovl = s.ovl := rfl
@[simp] theorem State.commitSlow_fchi : (s.commitSlow rate).fchi = s.fchi := rfl
@[simp] theorem State.commitSlow_lkFclo : (s.commitSlow rate).lkFclo = some s.fclo := rfl
@[simp] theorem State.commitSlow_lkFchi : (s.commitSlow rate).lkFchi = some s.fchi := rfl
@[simp] theorem State.commitSlow_lkSpecial : (s.commitSlow rate).lkSpecial = some (specialField s.sp1 s.sp2) := rfl
@[simp] theorem State.commitSlow_lkRate : (s.commitSlow rate).lkRate = some rate := rfl
@[simp] theorem State.commitSlow_rbuf : (s.commitSlow rate).rbuf = s.rbuf := rfl
@[simp] theorem State.commitSlow_rcnt : (s.commitSlow rate).rcnt = s.rcnt := rfl
@[simp] theorem State.commitSlow_out : (s.commitSlow rate).out = s.out := rfl
@[simp] theorem State.commitSlow_sink : (s.commitSlow rate).sink = s.sink := rfl

end

section
variable (s : State) (i : Fin 14) (m : Logical)

@[simp] theorem State.storeResponse_cfg : (s.storeResponse i m).cfg = s.cfg := rfl
@[simp] theorem State.storeResponse_inputs : (s.storeResponse i m).inputs = s.inputs := rfl
@[simp] theorem State.storeResponse_st : (s.storeResponse i m).st = s.st := rfl
@[simp] theorem State.storeResponse_k : (s.storeResponse i m).k = s.k := rfl
@[simp] theorem State.storeResponse_dev : (s.storeResponse i m).dev = s.dev := rfl
@[simp] theorem State.storeResponse_fclo : (s.storeResponse i m).fclo = s.fclo := rfl
@[simp] theorem State.storeResponse_sp1 : (s.storeResponse i m).sp1 = s.sp1 := rfl
@[simp] theorem State.storeResponse_sp2 : (s.storeResponse i m).sp2 = s.sp2 := rfl
@[simp] theorem State.storeResponse_rng : (s.storeResponse i m).rng = s.rng := rfl
@[simp] theorem State.storeResponse_dp : (s.storeResponse i m).dp = s.dp := rfl
@[simp] theorem State.storeResponse_sgn : (s.storeResponse i m).sgn = s.sgn := rfl
@[simp] theorem State.storeResponse_dig : (s.storeResponse i m).dig = s.dig := rfl
@[simp] theorem State.storeResponse_ovl : (s.storeResponse i m).ovl = s.ovl := rfl
@[simp] theorem State.storeResponse_fchi : (s.storeResponse i m).fchi = s.fchi := rfl
@[simp] theorem State.storeResponse_lkFclo : (s.storeResponse i m).lkFclo = s.lkFclo := rfl
@[simp] theorem State.storeResponse_lkFchi : (s.storeResponse i m).lkFchi = s.lkFchi := rfl
@[simp] theorem State.storeResponse_lkSpecial : (s.storeResponse i m).lkSpecial = s.lkSpecial := rfl
@[simp] theorem State.storeResponse_lkRate : (s.storeResponse i m).lkRate = s.lkRate := rfl
@[simp] theorem State.storeResponse_rbuf : (s.storeResponse i m).rbuf = s.rbuf.set i.val m := rfl
@[simp] theorem State.storeResponse_rcnt : (s.storeResponse i m).rcnt = s.rcnt + 1 := rfl
@[simp] theorem State.storeResponse_out : (s.storeResponse i m).out = s.out := rfl
@[simp] theorem State.storeResponse_sink : (s.storeResponse i m).sink = s.sink := rfl

end

section
variable (s : State) (p : Vector Byte 42)

@[simp] theorem State.chanWrite_cfg : (s.chanWrite p).cfg = s.cfg := rfl
@[simp] theorem State.chanWrite_inputs : (s.chanWrite p).inputs = s.inputs := rfl
@[simp] theorem State.chanWrite_st : (s.chanWrite p).st = s.st := rfl
@[simp] theorem State.chanWrite_k : (s.chanWrite p).k = s.k := rfl
@[simp] theorem State.chanWrite_dev : (s.chanWrite p).dev = s.dev := rfl
@[simp] theorem State.chanWrite_fclo : (s.chanWrite p).fclo = s.fclo := rfl
@[simp] theorem State.chanWrite_sp1 : (s.chanWrite p).sp1 = s.sp1 := rfl
@[simp] theorem State.chanWrite_sp2 : (s.chanWrite p).sp2 = s.sp2 := rfl
@[simp] theorem State.chanWrite_rng : (s.chanWrite p).rng = s.rng := rfl
@[simp] theorem State.chanWrite_dp : (s.chanWrite p).dp = s.dp := rfl
@[simp] theorem State.chanWrite_sgn : (s.chanWrite p).sgn = s.sgn := rfl
@[simp] theorem State.chanWrite_dig : (s.chanWrite p).dig = s.dig := rfl
@[simp] theorem State.chanWrite_ovl : (s.chanWrite p).ovl = s.ovl := rfl
@[simp] theorem State.chanWrite_fchi : (s.chanWrite p).fchi = s.fchi := rfl
@[simp] theorem State.chanWrite_lkFclo : (s.chanWrite p).lkFclo = s.lkFclo := rfl
@[simp] theorem State.chanWrite_lkFchi : (s.chanWrite p).lkFchi = s.lkFchi := rfl
@[simp] theorem State.chanWrite_lkSpecial : (s.chanWrite p).lkSpecial = s.lkSpecial := rfl
@[simp] theorem State.chanWrite_lkRate : (s.chanWrite p).lkRate = s.lkRate := rfl
@[simp] theorem State.chanWrite_rbuf : (s.chanWrite p).rbuf = s.rbuf := rfl
@[simp] theorem State.chanWrite_rcnt : (s.chanWrite p).rcnt = s.rcnt := rfl
@[simp] theorem State.chanWrite_out : (s.chanWrite p).out = s.out := rfl
@[simp] theorem State.chanWrite_sink : (s.chanWrite p).sink = s.sink ++ [p] := rfl

end

section
variable (s : State) (o : Output)

@[simp] theorem State.endOperation_decoder_cfg : (s.endOperation .decoder o).cfg = s.cfg := rfl
@[simp] theorem State.endOperation_decoder_inputs : (s.endOperation .decoder o).inputs = s.inputs := rfl
@[simp] theorem State.endOperation_decoder_st : (s.endOperation .decoder o).st = .awaitStart := rfl
@[simp] theorem State.endOperation_decoder_k : (s.endOperation .decoder o).k = 0 := rfl
@[simp] theorem State.endOperation_decoder_dev : (s.endOperation .decoder o).dev = s.dev := rfl
@[simp] theorem State.endOperation_decoder_fclo : (s.endOperation .decoder o).fclo = s.fclo := rfl
@[simp] theorem State.endOperation_decoder_sp1 : (s.endOperation .decoder o).sp1 = s.sp1 := rfl
@[simp] theorem State.endOperation_decoder_sp2 : (s.endOperation .decoder o).sp2 = s.sp2 := rfl
@[simp] theorem State.endOperation_decoder_rng : (s.endOperation .decoder o).rng = s.rng := rfl
@[simp] theorem State.endOperation_decoder_dp : (s.endOperation .decoder o).dp = s.dp := rfl
@[simp] theorem State.endOperation_decoder_sgn : (s.endOperation .decoder o).sgn = s.sgn := rfl
@[simp] theorem State.endOperation_decoder_dig : (s.endOperation .decoder o).dig = s.dig := rfl
@[simp] theorem State.endOperation_decoder_ovl : (s.endOperation .decoder o).ovl = s.ovl := rfl
@[simp] theorem State.endOperation_decoder_fchi : (s.endOperation .decoder o).fchi = s.fchi := rfl
@[simp] theorem State.endOperation_decoder_lkFclo : (s.endOperation .decoder o).lkFclo = s.lkFclo := rfl
@[simp] theorem State.endOperation_decoder_lkFchi : (s.endOperation .decoder o).lkFchi = s.lkFchi := rfl
@[simp] theorem State.endOperation_decoder_lkSpecial : (s.endOperation .decoder o).lkSpecial = s.lkSpecial := rfl
@[simp] theorem State.endOperation_decoder_lkRate : (s.endOperation .decoder o).lkRate = s.lkRate := rfl
@[simp] theorem State.endOperation_decoder_rbuf : (s.endOperation .decoder o).rbuf = s.rbuf := rfl
@[simp] theorem State.endOperation_decoder_rcnt : (s.endOperation .decoder o).rcnt = s.rcnt := rfl
@[simp] theorem State.endOperation_decoder_out : (s.endOperation .decoder o).out = o := rfl
@[simp] theorem State.endOperation_decoder_sink : (s.endOperation .decoder o).sink = s.sink := rfl

end

section
variable (s : State) (o : Output)

@[simp] theorem State.endOperation_response_cfg : (s.endOperation .response o).cfg = s.cfg := rfl
@[simp] theorem State.endOperation_response_inputs : (s.endOperation .response o).inputs = s.inputs := rfl
@[simp] theorem State.endOperation_response_st : (s.endOperation .response o).st = s.st := rfl
@[simp] theorem State.endOperation_response_k : (s.endOperation .response o).k = s.k := rfl
@[simp] theorem State.endOperation_response_dev : (s.endOperation .response o).dev = s.dev := rfl
@[simp] theorem State.endOperation_response_fclo : (s.endOperation .response o).fclo = s.fclo := rfl
@[simp] theorem State.endOperation_response_sp1 : (s.endOperation .response o).sp1 = s.sp1 := rfl
@[simp] theorem State.endOperation_response_sp2 : (s.endOperation .response o).sp2 = s.sp2 := rfl
@[simp] theorem State.endOperation_response_rng : (s.endOperation .response o).rng = s.rng := rfl
@[simp] theorem State.endOperation_response_dp : (s.endOperation .response o).dp = s.dp := rfl
@[simp] theorem State.endOperation_response_sgn : (s.endOperation .response o).sgn = s.sgn := rfl
@[simp] theorem State.endOperation_response_dig : (s.endOperation .response o).dig = s.dig := rfl
@[simp] theorem State.endOperation_response_ovl : (s.endOperation .response o).ovl = s.ovl := rfl
@[simp] theorem State.endOperation_response_fchi : (s.endOperation .response o).fchi = s.fchi := rfl
@[simp] theorem State.endOperation_response_lkFclo : (s.endOperation .response o).lkFclo = s.lkFclo := rfl
@[simp] theorem State.endOperation_response_lkFchi : (s.endOperation .response o).lkFchi = s.lkFchi := rfl
@[simp] theorem State.endOperation_response_lkSpecial : (s.endOperation .response o).lkSpecial = s.lkSpecial := rfl
@[simp] theorem State.endOperation_response_lkRate : (s.endOperation .response o).lkRate = s.lkRate := rfl
@[simp] theorem State.endOperation_response_rbuf : (s.endOperation .response o).rbuf = s.rbuf := rfl
@[simp] theorem State.endOperation_response_rcnt : (s.endOperation .response o).rcnt = 0 := rfl
@[simp] theorem State.endOperation_response_out : (s.endOperation .response o).out = o := rfl
@[simp] theorem State.endOperation_response_sink : (s.endOperation .response o).sink = s.sink := rfl

end

@[simp] theorem State.position_st (s : State) : s.position.st = s.st := rfl
@[simp] theorem State.position_k (s : State) : s.position.k = s.k := rfl
@[simp] theorem State.position_rcnt (s : State) : s.position.rcnt = s.rcnt := rfl
@[simp] theorem State.wait_eq (s : State) : s.wait = s := rfl

end Sys2Proof.Machine
end

