-- ==== Sys2Proof/Laws/Ops.lean ====
section
/-! SUPPORT. For each shared operation that can stop, one lemma that says everything it can do. -/

namespace Sys2Proof.Machine

/-- `fetch` answers exactly when an event has arrived: the event, and the state without it (R55). -/
theorem State.fetch_eq_some_iff {s t : State} {x : Input} :
    s.fetch = some (x, t) ↔ ∃ rest, s.inputs = x :: rest ∧ t = { s with inputs := rest } := by
  unfold State.fetch
  cases h : s.inputs with
  | nil => simp
  | cons y rest => simp [eq_comm]

/-- `dig[k]` exists and the action is taken on it, or the fault names k. -/
theorem withDigitRegister_cases (s : State) (act : Fin 6 → State) :
    (∃ h : s.k.toNat < 6, withDigitRegister s act = .next (act ⟨s.k.toNat, h⟩)) ∨
      (6 ≤ s.k.toNat ∧ withDigitRegister s act = .fault (.noDigitRegister s.k)) := by
  unfold withDigitRegister
  by_cases h : s.k.toNat < 6
  · exact .inl ⟨h, by simp [h]⟩
  · exact .inr ⟨by omega, by simp [h]⟩

/-- The register of a digit row, its number given. -/
theorem withDigitRegister_at {s : State} {i : Fin 6} (h : s.k.toNat = i.val) (act : Fin 6 → State) :
    withDigitRegister s act = .next (act i) := by
  have hk : s.k.toNat < 6 := by omega
  simp [withDigitRegister, h]

/-- `rbuf[rcnt]` exists and the action is taken on it, or the fault names the count. -/
theorem withResponseRegister_cases (s : State) (act : Fin 14 → State) :
    (∃ h : s.rcnt.toNat < 14, withResponseRegister s act = .next (act ⟨s.rcnt.toNat, h⟩)) ∨
      (14 ≤ s.rcnt.toNat ∧ withResponseRegister s act = .fault (.noResponseRegister s.rcnt)) := by
  unfold withResponseRegister
  by_cases h : s.rcnt.toNat < 14
  · exact .inl ⟨h, by simp [h]⟩
  · exact .inr ⟨by omega, by simp [h]⟩

/-- The register of RESP.BYTE, its number given. -/
theorem withResponseRegister_at {s : State} {i : Fin 14} (h : s.rcnt.toNat = i.val) (act : Fin 14 → State) :
    withResponseRegister s act = .next (act i) := by
  have hk : s.rcnt.toNat < 14 := by omega
  simp [withResponseRegister, h]

/-- ENCODE answers next whatever its operands: refused with nothing written, or the one write (R174, R175). -/
theorem execEncode_cases (cmd : Nat) (params : List Nat) (s : State) :
    (∃ r, encodeRefusal cmd params = some r ∧ execEncode cmd params s = .next (s.emit (.encodeRefused r))) ∨
      (encodeRefusal cmd params = none ∧ execEncode cmd params s =
        .next ((s.chanWrite (expandFrame s.cfg.nibbleOrder (commandFrame s.cfg cmd params))).emit .sent)) := by
  unfold execEncode
  cases h : encodeRefusal cmd params <;> simp

/-- ENCODE is admitted exactly for at most nine parameters and values below 64 (R174's `require`). -/
theorem encodeRefusal_eq_none_iff {cmd : Nat} {params : List Nat} :
    encodeRefusal cmd params = none ↔ params.length ≤ 9 ∧ cmd < 64 ∧ ∀ v ∈ params, v < 64 := by
  unfold encodeRefusal
  split
  · simp; omega
  · split
    · rename_i h1 h2
      simp only [List.any_eq_true, decide_eq_true_eq] at h2
      constructor
      · intro h; cases h
      · rintro ⟨-, hc, hv⟩
        rcases h2 with h2 | ⟨v, hm, hv'⟩
        · omega
        · have := hv v hm; omega
    · rename_i h1 h2
      simp only [List.any_eq_true, decide_eq_true_eq, not_or, not_exists, not_and, not_le] at h2
      simp only [true_iff]
      exact ⟨by omega, h2.1, fun v hv => h2.2 v hv⟩

/-- CONTRACT answers next whatever the block: the frame, or Invalid (R179). -/
theorem execContract_cases (p : Vector Byte 42) (s : State) :
    (∃ i, firstBadIndex p = some i ∧ execContract p s = .next (s.emit (.invalid i))) ∨
      (firstBadIndex p = none ∧
        execContract p s = .next (s.emit (.contracted (gatherFrame s.cfg.nibbleOrder p)))) := by
  unfold execContract contractFrame
  cases h : firstBadIndex p <;> simp

/-- The response check and dispatch: a mismatch, or a response with all fourteen bytes (R183, R184). -/
theorem checkAndDispatch_cases (cfg : Config) (r : Vector Logical 14) :
    (responsePasses cfg r = true ∧ checkAndDispatch cfg r = .response (responseKind cfg r) r) ∨
      (responsePasses cfg r = false ∧ checkAndDispatch cfg r = .checksumMismatch) := by
  unfold checkAndDispatch
  cases h : responsePasses cfg r <;> simp

end Sys2Proof.Machine
end

