-- ==== Sys2Proof/Laws/PerInstr.lean ====
section
/-! SUPPORT. The family CleanEncoding, per operation: the encoder sets no bit that the block ignores. -/

namespace Sys2Proof.Laws.CleanEncoding

/-- An encoded byte has bits 7:6 clear, the bits the block never observes (spec/20_memory.md R51). -/
def Statement (i : Instr) : Prop := ∀ b : Byte, (encode i).event = .byte b → b &&& 0xC0#8 = 0x00#8

/-- Six bits widened to a byte leave bits 7:6 clear. -/
theorem wireByte_clean : ∀ m : Logical, wireByte m &&& 0xC0#8 = 0x00#8 := by decide

/-- Four bits widened to a byte leave bits 7:6 clear. -/
theorem nibbleByte_clean : ∀ n : Nibble, nibbleByte n &&& 0xC0#8 = 0x00#8 := by decide

theorem awaitDev (m : Logical) : Statement (.awaitDev m) := by
  rintro b ⟨⟩; exact wireByte_clean _

theorem awaitFast (sgn : Bool) (dp : BitVec 3) : Statement (.awaitFast sgn dp) := by
  rintro b ⟨⟩; exact wireByte_clean _

theorem awaitSkip (m : Logical) : Statement (.awaitSkip m) := by
  rintro b ⟨⟩; exact wireByte_clean _

theorem statusFclo (fclo : Nibble) : Statement (.statusFclo fclo) := by
  rintro b ⟨⟩; exact nibbleByte_clean _

theorem statusSp1 (sp1 : Nibble) : Statement (.statusSp1 sp1) := by
  rintro b ⟨⟩; exact nibbleByte_clean _

theorem statusSp2 (sp2 : Nibble) : Statement (.statusSp2 sp2) := by
  rintro b ⟨⟩; exact nibbleByte_clean _

theorem statusRange (sgn : Bool) (dp : BitVec 3) : Statement (.statusRange sgn dp) := by
  rintro b ⟨⟩; exact nibbleByte_clean _

theorem lookSettingDev (m : Logical) : Statement (.lookSettingDev m) := by
  rintro b ⟨⟩; exact wireByte_clean _

theorem lookSettingFast (sgn : Bool) (dp : BitVec 3) : Statement (.lookSettingFast sgn dp) := by
  rintro b ⟨⟩; exact wireByte_clean _

theorem lookDigit (digit : Logical) : Statement (.lookDigit digit) := by
  rintro b ⟨⟩; exact wireByte_clean _

theorem slowDigit (digit : Logical) : Statement (.slowDigit digit) := by
  rintro b ⟨⟩; exact wireByte_clean _

theorem slowResyncDev (m : Logical) : Statement (.slowResyncDev m) := by
  rintro b ⟨⟩; exact wireByte_clean _

theorem slowResyncFast (sgn : Bool) (dp : BitVec 3) : Statement (.slowResyncFast sgn dp) := by
  rintro b ⟨⟩; exact wireByte_clean _

theorem trailFchi (fchi : Nibble) : Statement (.trailFchi fchi) := by
  rintro b ⟨⟩; exact nibbleByte_clean _

theorem trailRate (rate : Logical) : Statement (.trailRate rate) := by
  rintro b ⟨⟩; exact wireByte_clean _

theorem fastDigit (digit : Logical) : Statement (.fastDigit digit) := by
  rintro b ⟨⟩; exact wireByte_clean _

theorem fastLast (digit : Logical) : Statement (.fastLast digit) := by
  rintro b ⟨⟩; exact wireByte_clean _

theorem fastResyncDev (m : Logical) : Statement (.fastResyncDev m) := by
  rintro b ⟨⟩; exact wireByte_clean _

theorem fastResyncFast (sgn : Bool) (dp : BitVec 3) : Statement (.fastResyncFast sgn dp) := by
  rintro b ⟨⟩; exact wireByte_clean _

theorem decTimeout : Statement .decTimeout := by
  rintro b ⟨⟩

theorem decAbort : Statement .decAbort := by
  rintro b ⟨⟩

theorem respByte (m : Logical) : Statement (.respByte m) := by
  rintro b ⟨⟩; exact wireByte_clean _

theorem respLast (m : Logical) : Statement (.respLast m) := by
  rintro b ⟨⟩; exact wireByte_clean _

theorem respTimeout : Statement .respTimeout := by
  rintro b ⟨⟩

theorem respAbort : Statement .respAbort := by
  rintro b ⟨⟩

theorem encode (cmd : Nat) (params : List Nat) : Statement (.encode cmd params) := by
  rintro b ⟨⟩

theorem contract (p : Vector Byte 42) : Statement (.contract p) := by
  rintro b ⟨⟩

theorem checksumSub (l : Vector Logical 13) : Statement (.checksumSub l) := by
  rintro b ⟨⟩

theorem checksumAdd (l : Vector Logical 13) : Statement (.checksumAdd l) := by
  rintro b ⟨⟩

theorem expand (l : Vector Logical 14) : Statement (.expand l) := by
  rintro b ⟨⟩

theorem pair00 : Statement .pair00 := by
  rintro b ⟨⟩

theorem pair01 : Statement .pair01 := by
  rintro b ⟨⟩

theorem pair10 : Statement .pair10 := by
  rintro b ⟨⟩

theorem pair11 : Statement .pair11 := by
  rintro b ⟨⟩

theorem unitCorrect (fc : Byte) (dpRaw : BitVec 3) : Statement (.unitCorrect fc dpRaw) := by
  rintro b ⟨⟩

theorem format (d : List Logical) (dp : Int) (sgn : Bool) (ovl : Bool) : Statement (.format d dp sgn ovl) := by
  rintro b ⟨⟩

end Sys2Proof.Laws.CleanEncoding
end

