-- ==== Sys2Proof/Laws/Step.lean ====
section
/-! SUPPORT. What a step can do, said once: it waits, it refuses, or it runs the operation its event decodes to. -/

namespace Sys2Proof.Machine

/-- With no event, under an admitted configuration, there is nothing to read. -/
theorem readNext_empty {s : State} (hc : configRefusal s.cfg = none) (hi : s.inputs = []) : readNext s = none := by
  simp [readNext, hc, State.fetch, hi]

/-- What a step finds when an event has arrived. -/
theorem readNext_event {s : State} {x : Input} {rest : List Input} (hc : configRefusal s.cfg = none)
    (hi : s.inputs = x :: rest) :
    readNext s = match decode s.cfg.deviceCodes s.position x with
      | .error e => some (.error (.rejected e))
      | .ok i => some (.ok (i, { s with inputs := rest })) := by
  cases hd : decode s.cfg.deviceCodes s.position x <;> simp [readNext, hc, State.fetch, hi, hd]

/-- Under a refused configuration every step is refused with the reason (R222). -/
theorem step_of_refusedConfig {s : State} {e : ConfigError} (h : configRefusal s.cfg = some e) :
    step s = .refused (.configRefused e) := by
  simp [step, readNext, h]

/-- If a step answers a next state, the configuration is admitted, and either no event had arrived and the block
waited, or the state is the result of the operation the event decodes to. -/
theorem step_next_cases {s t : State} (h : step s = .next t) :
    configRefusal s.cfg = none ∧
      ((s.inputs = [] ∧ t = s) ∨
        ∃ x rest i, s.inputs = x :: rest ∧ decode s.cfg.deviceCodes s.position x = .ok i ∧
          exec i { s with inputs := rest } = .next t) := by
  unfold step at h
  cases hc : configRefusal s.cfg with
  | some e => simp [readNext, hc] at h
  | none =>
    refine ⟨rfl, ?_⟩
    cases hi : s.inputs with
    | nil =>
      rw [readNext_empty hc hi] at h
      exact .inl ⟨rfl, by simpa [eq_comm] using h⟩
    | cons x rest =>
      rw [readNext_event hc hi] at h
      cases hd : decode s.cfg.deviceCodes s.position x with
      | error e => simp [hd] at h
      | ok i => exact .inr ⟨x, rest, i, rfl, hd, by simpa [hd] using h⟩

end Sys2Proof.Machine
end

