-- ==== Sys2Proof/Machine/Events.lean ====
section
/-! DEFINITION. The codes and classes of the outputs (spec/60_exceptions.md R210). They label outputs and change
nothing a step does. -/

namespace Sys2Proof.Machine

/-- The classes of R210's table, with Idle, and with `result` for what a pure function returns (log 13). -/
inductive OutputClass where
  | idle
  | error
  | informational
  | cancellation
  | refusal
  | verdict
  | data
  | result
  deriving DecidableEq, Repr

/-- The code R210 assigns to an output, where it assigns one. -/
def outputCode : Output → Option Nat
  | .channelTimeout => some 1
  | .checksumMismatch => some 2
  | .resync => some 3
  | .aborted => some 4
  | .encodeRefused _ => some 5
  | .invalid _ => some 6
  | .idle => none
  | .measurement _ => none
  | .setting _ => none
  | .response _ _ => none
  | .sent => none
  | .contracted _ => none
  | .checksum _ => none
  | .expanded _ => none
  | .pairByte _ => none
  | .corrected _ _ => none
  | .formatted _ => none

/-- The class R210 gives an output. -/
def outputClass : Output → OutputClass
  | .channelTimeout => .error
  | .checksumMismatch => .error
  | .resync => .informational
  | .aborted => .cancellation
  | .encodeRefused _ => .refusal
  | .invalid _ => .verdict
  | .idle => .idle
  | .measurement _ => .data
  | .setting _ => .data
  | .response _ _ => .data
  | .sent => .data
  | .contracted _ => .result
  | .checksum _ => .result
  | .expanded _ => .result
  | .pairByte _ => .result
  | .corrected _ _ => .result
  | .formatted _ => .result

/-- ConfigRefused has code 7 (R210); it is a refusal of the step, since the block has no step there (R222). -/
def refusalCode : Refusal → Option Nat
  | .configRefused _ => some 7
  | .rejected _ => none
  | _ => none

end Sys2Proof.Machine
end

