-- ==== Sys2Proof/Tests/Slice0.lean ====
section
/-! SUPPORT. Tests of the model, each a named theorem about at most one step: ill-formed terms the well-formedness check
refuses; a word of every row, written out from its encoding; the vectors of spec/95_test_vectors.md, whose section
each comment names; and for every statement with hypotheses a state and operands that meet them, at the ends of their
ranges. -/

namespace Sys2Proof.Tests

open Sys2Proof.Machine

/-- The default DEVICE_CODES. -/
def codes : List Logical := [0x0E#6]

/-- The decoder at a position, with events waiting. -/
def decoderAt (st : Phase) (k : BitVec 3) (xs : List Input) : State :=
  { State.reset with st := st, k := k, inputs := xs }

/-- The receiver with some bytes received, and events waiting. -/
def receiverAt (rcnt : BitVec 4) (rbuf : Vector Logical 14) (xs : List Input) : State :=
  { State.reset with rcnt := rcnt, rbuf := rbuf, inputs := xs }

/-- The next state, where there is one. -/
def nextState : Host.Outcome State Fault Refusal → Option State
  | .next t => some t
  | .fault _ => none
  | .refused _ => none

/-- The output of the next state, where there is one. -/
def output (o : Host.Outcome State Fault Refusal) : Option Output := (nextState o).map State.out

/-- The refusal, where there is one. -/
def refusal : Host.Outcome State Fault Refusal → Option Refusal
  | .next _ => none
  | .fault _ => none
  | .refused r => some r

/-! Well-formedness: for each check, a term it refuses. -/

theorem test_ill_formed_starts :
    (Instr.awaitDev 0x0D#6).wellFormed codes = false ∧ (Instr.awaitSkip 0x0E#6).wellFormed codes = false ∧
    (Instr.awaitSkip 0x10#6).wellFormed codes = false ∧ (Instr.lookSettingDev 0x00#6).wellFormed codes = false ∧
    (Instr.slowResyncDev 0x1E#6).wellFormed codes = false ∧ (Instr.fastResyncDev 0x2E#6).wellFormed codes = false := by
  decide

theorem test_ill_formed_digits :
    (Instr.lookDigit 0x0E#6).wellFormed codes = false ∧ (Instr.slowDigit 0x1F#6).wellFormed codes = false ∧
    (Instr.fastDigit 0x10#6).wellFormed codes = false ∧ (Instr.fastLast 0x0E#6).wellFormed codes = false ∧
    (Instr.format [1, 2, 3, 4] 2 false false).wellFormed codes = false ∧
    (Instr.format [1, 2, 3, 4, 5, 6, 7] 2 false false).wellFormed codes = false := by
  decide

theorem test_well_formed :
    (Instr.awaitDev 0x0E#6).wellFormed codes = true ∧ (Instr.awaitSkip 0x0F#6).wellFormed codes = true ∧
    (Instr.lookDigit 0x20#6).wellFormed codes = true ∧ (Instr.fastLast 0x0D#6).wellFormed codes = true ∧
    (Instr.format [1, 2, 3, 4, 5] 2 false false).wellFormed codes = true := by
  decide

/-- R102: a row belongs to its own state. -/
theorem test_read_elsewhere :
    (Instr.awaitDev 0x0E#6).readAt ⟨.digitsSlow, 0, 0⟩ = false ∧
    (Instr.slowDigit 0x01#6).readAt ⟨.digitsSlow, 0, 0⟩ = false ∧
    (Instr.fastDigit 0x01#6).readAt ⟨.digitsFast, 4, 0⟩ = false ∧
    (Instr.respLast 0x01#6).readAt ⟨.awaitStart, 0, 12⟩ = false := by
  decide

/-! Words written out bit by bit: bits 7:6 are ignored (R51), bits 5:0 are the row's. -/

theorem test_word_awaitDev :
    decode codes ⟨.awaitStart, 0, 0⟩ (decoderByte 0b01001110#8) = .ok (.awaitDev 0b001110#6) := rfl
theorem test_word_awaitFast :
    decode codes ⟨.awaitStart, 0, 0⟩ (decoderByte 0b01011010#8) = .ok (.awaitFast true 0b010#3) := rfl
theorem test_word_awaitSkip :
    decode codes ⟨.awaitStart, 0, 0⟩ (decoderByte 0b00100000#8) = .ok (.awaitSkip 0b100000#6) := rfl
theorem test_word_statusFclo :
    decode codes ⟨.statusBytes, 1, 0⟩ (decoderByte 0b00110001#8) = .ok (.statusFclo 0b0001#4) := rfl
theorem test_word_statusSp1 :
    decode codes ⟨.statusBytes, 2, 0⟩ (decoderByte 0b00001110#8) = .ok (.statusSp1 0b1110#4) := rfl
theorem test_word_statusSp2 :
    decode codes ⟨.statusBytes, 3, 0⟩ (decoderByte 0b00011110#8) = .ok (.statusSp2 0b1110#4) := rfl
theorem test_word_statusRange :
    decode codes ⟨.statusBytes, 4, 0⟩ (decoderByte 0b00001010#8) = .ok (.statusRange true 0b010#3) := rfl
theorem test_word_lookSettingDev :
    decode codes ⟨.digitsSlow, 0, 0⟩ (decoderByte 0b00001110#8) = .ok (.lookSettingDev 0b001110#6) := rfl
theorem test_word_lookSettingFast :
    decode codes ⟨.digitsSlow, 0, 0⟩ (decoderByte 0b00010001#8) = .ok (.lookSettingFast false 0b001#3) := rfl
theorem test_word_lookDigit :
    decode codes ⟨.digitsSlow, 0, 0⟩ (decoderByte 0b00001011#8) = .ok (.lookDigit 0b001011#6) := rfl
theorem test_word_slowDigit :
    decode codes ⟨.digitsSlow, 5, 0⟩ (decoderByte 0b11000110#8) = .ok (.slowDigit 0b000110#6) := rfl
theorem test_word_slowResyncDev :
    decode codes ⟨.digitsSlow, 1, 0⟩ (decoderByte 0b00001110#8) = .ok (.slowResyncDev 0b001110#6) := rfl
theorem test_word_slowResyncFast :
    decode codes ⟨.digitsSlow, 5, 0⟩ (decoderByte 0b00010110#8) = .ok (.slowResyncFast false 0b110#3) := rfl
theorem test_word_trailFchi :
    decode codes ⟨.trailingFields, 0, 0⟩ (decoderByte 0b00010000#8) = .ok (.trailFchi 0b0000#4) := rfl
theorem test_word_trailRate :
    decode codes ⟨.trailingFields, 1, 0⟩ (decoderByte 0b00011110#8) = .ok (.trailRate 0b011110#6) := rfl
theorem test_word_fastDigit :
    decode codes ⟨.digitsFast, 3, 0⟩ (decoderByte 0b00001111#8) = .ok (.fastDigit 0b001111#6) := rfl
theorem test_word_fastLast :
    decode codes ⟨.digitsFast, 4, 0⟩ (decoderByte 0b00000101#8) = .ok (.fastLast 0b000101#6) := rfl
theorem test_word_fastResyncDev :
    decode codes ⟨.digitsFast, 4, 0⟩ (decoderByte 0b00001110#8) = .ok (.fastResyncDev 0b001110#6) := rfl
theorem test_word_fastResyncFast :
    decode codes ⟨.digitsFast, 0, 0⟩ (decoderByte 0b00010011#8) = .ok (.fastResyncFast false 0b011#3) := rfl
theorem test_word_decTimeout :
    decode codes ⟨.digitsFast, 2, 7⟩ { owner := .decoder, event := .timeout } = .ok .decTimeout := rfl
theorem test_word_decAbort :
    decode codes ⟨.statusBytes, 2, 7⟩ { owner := .decoder, event := .abort } = .ok .decAbort := rfl
theorem test_word_respByte :
    decode codes ⟨.digitsSlow, 2, 12⟩ (responseByte 0b01001110#8) = .ok (.respByte 0b001110#6) := rfl
theorem test_word_respLast :
    decode codes ⟨.digitsSlow, 2, 13⟩ (responseByte 0b01101010#8) = .ok (.respLast 0b101010#6) := rfl
theorem test_word_respTimeout :
    decode codes ⟨.awaitStart, 0, 3⟩ { owner := .response, event := .timeout } = .ok .respTimeout := rfl
theorem test_word_respAbort :
    decode codes ⟨.awaitStart, 0, 3⟩ { owner := .response, event := .abort } = .ok .respAbort := rfl
theorem test_word_encode :
    decode codes resetPosition (request (.encode 5 [1])) = .ok (.encode 5 [1]) := rfl
theorem test_word_contract :
    decode codes resetPosition (request (.contract (Vector.replicate 42 0xF0#8))) =
      .ok (.contract (Vector.replicate 42 0xF0#8)) := rfl
theorem test_word_checksumSub :
    decode codes resetPosition (request (.checksumSub (Vector.replicate 13 0x3F#6))) =
      .ok (.checksumSub (Vector.replicate 13 0x3F#6)) := rfl
theorem test_word_checksumAdd :
    decode codes resetPosition (request (.checksumAdd (Vector.replicate 13 0x3F#6))) =
      .ok (.checksumAdd (Vector.replicate 13 0x3F#6)) := rfl
theorem test_word_expand :
    decode codes resetPosition (request (.expand (Vector.replicate 14 0x2B#6))) =
      .ok (.expand (Vector.replicate 14 0x2B#6)) := rfl
theorem test_word_pair00 : decode codes resetPosition (request (.pair 0b00#2)) = .ok .pair00 := rfl
theorem test_word_pair01 : decode codes resetPosition (request (.pair 0b01#2)) = .ok .pair01 := rfl
theorem test_word_pair10 : decode codes resetPosition (request (.pair 0b10#2)) = .ok .pair10 := rfl
theorem test_word_pair11 : decode codes resetPosition (request (.pair 0b11#2)) = .ok .pair11 := rfl
theorem test_word_unitCorrect :
    decode codes resetPosition (request (.unitCorrect 0x23#8 0b101#3)) = .ok (.unitCorrect 0x23#8 0b101#3) := rfl
theorem test_word_format :
    decode codes resetPosition (request (.format [9, 8, 7, 6, 5] (-2) true false)) =
      .ok (.format [9, 8, 7, 6, 5] (-2) true false) := rfl

/-- R102's table has no row here, nor R150 for four digits: rejected by name. -/
theorem test_word_rejected :
    decode codes ⟨.statusBytes, 0, 0⟩ (decoderByte 0x0E#8) = .error (.noDecoderRow .statusBytes 0) ∧
    decode codes ⟨.awaitStart, 0, 14⟩ (responseByte 0x0E#8) = .error (.noResponseRow 14) ∧
    decode codes resetPosition (request (.format [1, 2, 3, 4] 0 false false)) = .error (.digitCount 4) :=
  ⟨rfl, rfl, rfl⟩

/-- L2.1: the classes. -/
theorem test_classes :
    byteClass codes 0x0E#6 = .dev ∧ byteClass codes 0x0D#6 = .other ∧ byteClass codes 0x0F#6 = .other ∧
    byteClass codes 0x10#6 = .fast ∧ byteClass codes 0x1F#6 = .fast ∧ byteClass codes 0x20#6 = .other ∧
    byteClass [0x0E#6, 0x0C#6] 0x0C#6 = .dev := by
  decide

/-! The host's two definitions, on table words. -/

theorem test_table_words :
    decodeTableWord 8 0x0E = some (.awaitDev 0x0E#6) ∧ decodeTableWord 8 0x1D = some (.awaitFast true 5) ∧
    decodeTableWord 8 0x3A = some (.awaitSkip 0x3A#6) ∧ decodeTableWord 8 0x00 = some (.awaitSkip 0x00#6) := by
  decide

theorem test_fetch_word :
    (nextState (step (State.reset.withFetchWord 8 0x0E))).map (fun t => (t.dev, t.st, t.k, t.inputs)) =
      some (0x0E#6, Phase.statusBytes, 1, []) := by
  decide

/-! Single steps, from the vectors. -/

/-- L2.2: RX 0E, and RX 1D. -/
theorem test_awaitDev :
    (nextState (step (decoderAt .awaitStart 0 [decoderByte 0x0E#8]))).map (fun t => (t.dev, t.st, t.k, t.out)) =
      some (0x0E#6, Phase.statusBytes, 1, Output.idle) := by
  decide

theorem test_awaitFast :
    (nextState (step (decoderAt .awaitStart 0 [decoderByte 0x1D#8]))).map
        (fun t => (t.dp, t.sgn, t.ovl, t.st, t.k)) =
      some (5, true, false, Phase.digitsFast, 0) := by
  decide

theorem test_awaitSkip :
    nextState (step (decoderAt .awaitStart 0 [decoderByte 0x3F#8])) = some (decoderAt .awaitStart 0 []) := by
  decide

/-- L2.3: 0E 31 0E 1E 0A, each byte at its position. -/
theorem test_statusFclo :
    (nextState (step (decoderAt .statusBytes 1 [decoderByte 0x31#8]))).map (fun t => (t.fclo, t.st, t.k)) =
      some (0x1#4, Phase.statusBytes, 2) := by
  decide

theorem test_statusSp1 :
    (nextState (step (decoderAt .statusBytes 2 [decoderByte 0x0E#8]))).map (fun t => (t.sp1, t.st, t.k)) =
      some (0xE#4, Phase.statusBytes, 3) := by
  decide

theorem test_statusSp2 :
    (nextState (step (decoderAt .statusBytes 3 [decoderByte 0x1E#8]))).map (fun t => (t.sp2, t.st, t.k)) =
      some (0xE#4, Phase.statusBytes, 4) := by
  decide

theorem test_statusRange :
    (nextState (step { decoderAt .statusBytes 4 [decoderByte 0x0A#8] with ovl := true })).map
        (fun t => (t.rng, t.dp, t.sgn, t.ovl, t.st, t.k)) =
      some (0xA#4, 2, true, false, Phase.digitsSlow, 0) := by
  decide

/-- The registers after 0E 03 05 06 0C (L2.4, third row). -/
def settingBlock (b : Byte) : State :=
  { decoderAt .digitsSlow 0 [decoderByte b] with
    dev := 0x0E#6, fclo := 3, sp1 := 5, sp2 := 6, rng := 0xC#4, dp := 4, sgn := true }

theorem test_lookSettingDev :
    output (step (settingBlock 0x0E#8)) =
      some (.setting { dev := 0x0E#6, fclo := 3, special := 0x56#8, dp := 4, sgn := true }) ∧
    (nextState (step (settingBlock 0x0E#8))).map (fun t => (t.lkFclo, t.lkFchi, t.lkSpecial, t.lkRate)) =
      some (some 3, none, some 0x56#8, none) := by
  decide

theorem test_lookSettingFast :
    output (step (settingBlock 0x11#8)) =
      some (.setting { dev := 0x0E#6, fclo := 3, special := 0x56#8, dp := 4, sgn := true }) ∧
    (nextState (step (settingBlock 0x11#8))).map (fun t => (t.dp, t.sgn, t.st, t.k, t.lkSpecial)) =
      some (1, false, Phase.digitsFast, 0, some 0x56#8) := by
  decide

/-- L2.4, last row: 0B is an overload digit. -/
theorem test_lookDigit :
    (nextState (step (settingBlock 0x0B#8))).map (fun t => (t.dig[0], t.ovl, t.st, t.k, t.lkFclo)) =
      some (0x0B#6, true, Phase.digitsSlow, 1, none) := by
  decide

/-- R112's example: with k = 5, RX 0x06. -/
theorem test_slowDigit_last :
    (nextState (step (decoderAt .digitsSlow 5 [decoderByte 0x06#8]))).map (fun t => (t.dig[5], t.ovl, t.st, t.k)) =
      some (0x06#6, false, Phase.trailingFields, 0) := by
  decide

/-- L2.5: 2A at digit 2; the frame goes on. -/
theorem test_slowDigit_overload :
    (nextState (step (decoderAt .digitsSlow 2 [decoderByte 0x2A#8]))).map (fun t => (t.dig[2], t.ovl, t.st, t.k)) =
      some (0x2A#6, true, Phase.digitsSlow, 3) := by
  decide

/-- L2.5: the second 0E is a resync, not overload digit 14; 16 at the sixth digit. -/
theorem test_slowResyncDev :
    (nextState (step (decoderAt .digitsSlow 1 [decoderByte 0x0E#8]))).map (fun t => (t.out, t.st, t.k, t.lkFclo)) =
      some (.resync, Phase.statusBytes, 1, none) := by
  decide

theorem test_slowResyncFast :
    (nextState (step (decoderAt .digitsSlow 5 [decoderByte 0x16#8]))).map (fun t => (t.out, t.dp, t.st, t.k)) =
      some (.resync, 6, Phase.digitsFast, 0) := by
  decide

/-- The registers after 0E 31 0E 1E 02 and six digits (L2.6, second row). -/
def slowFrame (k : BitVec 3) (b : Byte) : State :=
  { decoderAt .trailingFields k [decoderByte b] with
    dev := 0x0E#6, fclo := 1, sp1 := 0xE#4, sp2 := 0xE#4, rng := 2, dp := 2, dig := #v[1, 2, 3, 4, 5, 6] }

theorem test_trailFchi :
    (nextState (step (slowFrame 0 0x10#8))).map (fun t => (t.fchi, t.st, t.k, t.out)) =
      some (0, Phase.trailingFields, 1, .idle) := by
  decide

theorem test_trailRate :
    output (step (slowFrame 1 0x1E#8)) =
      some (.measurement { mode := .slow, sign := false, digits := [1, 2, 3, 4, 5, 6], dpRaw := 2,
                           decimalPosition := 2, functionCode := some 0x01#8, unit := some "V".toList,
                           statusFlags := some 0xEE#8, overload := false, rateHint := some 0x1E#6,
                           text := some "1234.56".toList }) := by
  decide

theorem test_trailRate_commits :
    (nextState (step (slowFrame 1 0x1E#8))).map (fun t => (t.st, t.k, t.lkFclo, t.lkFchi, t.lkSpecial, t.lkRate)) =
      some (Phase.awaitStart, 0, some 1, some 0, some 0xEE#8, some 0x1E#6) := by
  decide

/-- L1.2: the fast frame of Scenario B. -/
def fastFrame (b : Byte) : State :=
  { decoderAt .digitsFast 4 [decoderByte b] with dp := 7, sgn := true, ovl := true, dig := #v[1, 15, 2, 3, 0, 0] }

theorem test_fastDigit :
    (nextState (step (decoderAt .digitsFast 1 [decoderByte 0x0F#8]))).map (fun t => (t.dig[1], t.ovl, t.st, t.k)) =
      some (0x0F#6, true, Phase.digitsFast, 2) := by
  decide

theorem test_fastLast_overload :
    output (step (fastFrame 0x04#8)) =
      some (.measurement { mode := .fast, sign := true, digits := [1, 15, 2, 3, 4], dpRaw := 7, decimalPosition := 7,
                           functionCode := none, unit := none, statusFlags := none, overload := true,
                           rateHint := none, text := none }) := by
  decide

/-- L2.7: after L1.1, 12 09 08 07 06 05. -/
theorem test_fastLast_carries :
    output (step { decoderAt .digitsFast 4 [decoderByte 0x05#8] with
        dp := 2, dig := #v[9, 8, 7, 6, 0, 0], lkFclo := some 1, lkFchi := some 0, lkSpecial := some 0,
        lkRate := some 0 }) =
      some (.measurement { mode := .fast, sign := false, digits := [9, 8, 7, 6, 5], dpRaw := 2, decimalPosition := 2,
                           functionCode := some 0x01#8, unit := some "V".toList, statusFlags := some 0x00#8,
                           overload := false, rateHint := some 0, text := some "987.65".toList }) := by
  decide

theorem test_fastResyncDev :
    (nextState (step (fastFrame 0x0E#8))).map (fun t => (t.out, t.dev, t.st, t.k)) =
      some (.resync, 0x0E#6, Phase.statusBytes, 1) := by
  decide

theorem test_fastResyncFast :
    (nextState (step (fastFrame 0x13#8))).map (fun t => (t.out, t.dp, t.sgn, t.ovl, t.st, t.k)) =
      some (.resync, 3, false, false, Phase.digitsFast, 0) := by
  decide

/-- L2.8. -/
theorem test_decTimeout :
    nextState (step { slowFrame 1 0x00#8 with inputs := [{ owner := .decoder, event := .timeout }] }) =
      some { slowFrame 1 0x00#8 with inputs := [], st := .awaitStart, k := 0, out := .channelTimeout } := by
  decide

theorem test_decAbort :
    nextState (step { fastFrame 0x00#8 with inputs := [{ owner := .decoder, event := .abort }] }) =
      some { fastFrame 0x00#8 with inputs := [], st := .awaitStart, k := 0, out := .aborted } := by
  decide

/-- R181's example: rcnt = 0, RX 0x41. -/
theorem test_respByte :
    (nextState (step (receiverAt 0 (Vector.replicate 14 0) [responseByte 0x41#8]))).map
        (fun t => (t.rbuf[0], t.rcnt, t.out)) =
      some (0x01#6, 1, .idle) := by
  decide

/-- The response of L1.3, but for its last byte. -/
def goodResponse : Vector Logical 14 := #v[0x01, 0x2B, 0x3F, 0x05, 0x01, 2, 3, 4, 5, 6, 0x11, 0, 0, 0]

theorem test_respLast :
    (nextState (step (receiverAt 13 goodResponse [responseByte 0x6A#8]))).map (fun t => (t.rcnt, t.out)) =
      some (0, .response .raw (goodResponse.set 13 0x2A#6)) := by
  decide

theorem test_respLast_mismatch :
    (nextState (step (receiverAt 13 goodResponse [responseByte 0x2B#8]))).map (fun t => (t.rcnt, t.out)) =
      some (0, .checksumMismatch) := by
  decide

theorem test_respTimeout :
    nextState (step (receiverAt 3 goodResponse [{ owner := .response, event := .timeout }])) =
      some { receiverAt 0 goodResponse [] with out := .channelTimeout } := by
  decide

theorem test_respAbort :
    nextState (step (receiverAt 3 goodResponse [{ owner := .response, event := .abort }])) =
      some { receiverAt 0 goodResponse [] with out := .aborted } := by
  decide

/-- L2.13: the 42 bytes of ENC 05, 01. -/
def encodedBlock : Vector Byte 42 :=
  #v[0x00#8, 0x00, 0x00, 0xFF, 0xF0, 0xF0, 0xFF, 0xFF, 0xFF, 0x0F, 0x0F, 0x00, 0x0F, 0x00, 0x00] ++
    (Vector.replicate 24 0x00#8 ++ #v[0x00#8, 0x00#8, 0x0F#8])

theorem test_encode :
    nextState (exec (.encode 5 [1]) State.reset) = some { State.reset with sink := [encodedBlock], out := .sent } := by
  decide

/-- L2.13: ten parameters; a parameter of 40; a command of 40. -/
theorem test_encode_refused :
    nextState (exec (.encode 5 (List.replicate 10 0)) State.reset) =
      some { State.reset with out := .encodeRefused .tooManyParams } ∧
    output (exec (.encode 5 [64]) State.reset) = some (.encodeRefused .valueTooLarge) ∧
    output (exec (.encode 64 []) State.reset) = some (.encodeRefused .valueTooLarge) := by
  decide

/-- L2.14. -/
theorem test_contract :
    output (exec (.contract encodedBlock) State.reset) =
      some (.contracted #v[0x00, 0x2B, 0x3F, 0x05, 0x01, 0, 0, 0, 0, 0, 0, 0, 0, 0x10]) := by
  decide

theorem test_contract_invalid :
    output (exec (.contract ((Vector.replicate 42 0x00#8).set 1 0x1F#8)) State.reset) = some (.invalid 1) ∧
    output (exec (.contract ((Vector.replicate 42 0x00#8).set 41 0xF1#8)) State.reset) = some (.invalid 41) := by
  decide

/-- L2.11: the sums 91 and 760. -/
theorem test_checksumSub :
    output (exec (.checksumSub #v[1, 2, 3, 4, 5, 6, 7, 8, 9, 10, 11, 12, 13]) State.reset) =
      some (.checksum 0x25#6) ∧
    output (exec (.checksumSub ((Vector.replicate 13 0x3F#6).set 12 0x04#6)) State.reset) =
      some (.checksum 0x08#6) := by
  decide

theorem test_checksumAdd :
    output (exec (.checksumAdd #v[1, 2, 3, 4, 5, 6, 7, 8, 9, 10, 11, 12, 13]) State.reset) =
      some (.checksum 0x25#6) ∧
    output (exec (.checksumAdd ((Vector.replicate 13 0x3F#6).set 12 0x04#6)) State.reset) =
      some (.checksum 0x08#6) := by
  decide

/-- L2.12: 2B is FF F0 F0, and 3E is F0 FF FF. -/
theorem test_expand :
    output (exec (.expand ((Vector.replicate 14 0x00#6).set 0 0x2B#6)) State.reset) =
      some (.expanded (#v[0xFF#8, 0xF0#8, 0xF0#8] ++ Vector.replicate 39 0x00#8)) ∧
    output (exec (.expand ((Vector.replicate 14 0x00#6).set 13 0x3E#6)) State.reset) =
      some (.expanded (Vector.replicate 39 0x00#8 ++ #v[0xF0#8, 0xFF#8, 0xFF#8])) := by
  decide

/-- The reset state under the other nibble order. -/
def highFirst : State := { State.reset with cfg := { Config.default with nibbleOrder := .lowbitHighnib } }

/-- R82. -/
theorem test_pair00 : output (exec .pair00 State.reset) = some (.pairByte 0x00#8) := by decide
theorem test_pair01 :
    output (exec .pair01 State.reset) = some (.pairByte 0x0F#8) ∧
      output (exec .pair01 highFirst) = some (.pairByte 0xF0#8) := by
  decide
theorem test_pair10 :
    output (exec .pair10 State.reset) = some (.pairByte 0xF0#8) ∧
      output (exec .pair10 highFirst) = some (.pairByte 0x0F#8) := by
  decide
theorem test_pair11 : output (exec .pair11 State.reset) = some (.pairByte 0xFF#8) := by decide

/-- L2.9: Correct(0x01, 2); Correct(0x23, 5), whose label is the configuration's. -/
theorem test_unitCorrect :
    output (exec (.unitCorrect 0x01#8 2) State.reset) = some (.corrected "V".toList 2) := by
  decide

theorem test_unitCorrect_opaque :
    output (exec (.unitCorrect 0x23#8 5) State.reset) = some (.corrected (Config.freeFallbackLabel 0x23#8) 5) := rfl

/-- L2.9: c_I, c_dB and c_P, at the codes the default configuration gives them. -/
theorem test_corrections :
    (correct Config.default 0x1A#8 7).2 = 8 ∧ (correct Config.default 0x1C#8 0).2 = 1 ∧
    (correct Config.default 0x1D#8 0).2 = 3 ∧ (correct Config.default 0x1D#8 6).2 = 3 ∧
    (correct Config.default 0x1E#8 0).2 = -2 := by
  decide

/-- L2.10. -/
theorem test_format :
    formatValue [1, 2, 3, 4, 5, 6] 2 false false = some "1234.56".toList ∧
    formatValue [1, 2, 3, 4, 5, 6] 0 false false = some "123456.".toList ∧
    formatValue [1, 2, 3, 4, 5, 6] 6 true false = some "-.123456".toList ∧
    formatValue [1, 2, 3, 4, 5, 6] 8 false false = some ".00123456".toList := by
  decide

theorem test_format_negative :
    output (exec (.format [1, 2, 3, 4, 5, 6] (-2) false false) State.reset) =
      some (.formatted (some ".00123456".toList)) ∧
    output (exec (.format [1, 15, 2, 3, 4] 7 true true) State.reset) = some (.formatted none) := by
  decide

/-- L2.1, last row. -/
theorem test_config_refused :
    refusal (step { State.reset with cfg := { Config.default with deviceCodes := [0x12#6] } }) =
      some (.configRefused (.deviceCode 0x12#6)) := by
  decide

/-- R125: the call takes bytes, timeouts and aborts of the decoder; a request is none of them. -/
theorem test_nextMeasurement_takes :
    (nextMeasurement 1 (decoderAt .digitsSlow 1 [{ owner := .decoder, event := .abort }])).map Prod.fst =
      some .aborted ∧
    nextMeasurement 2 (decoderAt .awaitStart 0
      [request (.encode 5 []), { owner := .decoder, event := .abort }]) = none := by
  decide

/-- R210: the codes. -/
theorem test_codes :
    outputCode .channelTimeout = some 1 ∧ outputCode .checksumMismatch = some 2 ∧ outputCode .resync = some 3 ∧
    outputCode .aborted = some 4 ∧ outputCode (.encodeRefused .tooManyParams) = some 5 ∧
    outputCode (.invalid 0) = some 6 ∧ refusalCode (.configRefused .correctionTable) = some 7 ∧
    outputCode .idle = none := by
  decide

/-- R246: a command may follow another only when its response, or a timeout, has come. -/
theorem test_noPipelining :
    noPipelining 0 [request (.encode 5 []), request (.encode 5 [])] = false ∧
    noPipelining 0 [request (.encode 5 []), { owner := .response, event := .timeout }, request (.encode 5 [])] =
      true := by
  decide

/-- R32: FLAG_MAP places a flag; unplaced, it has no reading. -/
theorem test_statusFlag :
    statusFlag { Config.default with flagMap := [(.beep, 3)] } 0x08#8 .beep = some true ∧
    statusFlag Config.default 0x08#8 .beep = none := by
  decide

/-! Witnesses: for each statement with hypotheses, a state and operands that meet them, at the ends of the ranges. -/

/-- Every state built from reset has the default configuration, which R222 admits. -/
theorem witness_config (st : Phase) (k : BitVec 3) (xs : List Input) : (decoderAt st k xs).configOk := rfl

/-- The positions and bytes of FrameStartRows. -/
theorem witness_FrameStartRows :
    let s := fun b => decoderAt .awaitStart 0 [decoderByte b]
    (s 0xCE#8).configOk ∧ (s 0xCE#8).inputs = decoderByte 0xCE#8 :: [] ∧ (s 0xCE#8).st = .awaitStart ∧
    (s 0xCE#8).k = 0 ∧ (0xCE#8).extractLsb' 0 6 ∈ (s 0xCE#8).cfg.deviceCodes ∧
    ((0x10#8).extractLsb' 0 6).extractLsb' 4 2 = 0b01#2 ∧ ((0x1F#8).extractLsb' 0 6).extractLsb' 4 2 = 0b01#2 ∧
    ¬ startByte codes ((0x0F#8).extractLsb' 0 6) ∧ ¬ startByte codes ((0x20#8).extractLsb' 0 6) :=
  ⟨rfl, rfl, rfl, rfl, by decide, by decide, by decide, by unfold startByte; decide, by unfold startByte; decide⟩

theorem witness_StatusByteRows :
    let s := fun k => decoderAt .statusBytes k [decoderByte 0x0E#8]
    (s 1).configOk ∧ (s 4).configOk ∧ (s 1).inputs = decoderByte 0x0E#8 :: [] ∧ (s 1).st = .statusBytes ∧
    (s 1).k = 1 ∧ (s 2).k = 2 ∧ (s 3).k = 3 ∧ (s 4).k = 4 :=
  ⟨rfl, rfl, rfl, rfl, rfl, rfl, rfl, rfl⟩

theorem witness_LookaheadEndsSettingBlock :
    let s := settingBlock 0x0E#8
    s.configOk ∧ s.inputs = decoderByte 0x0E#8 :: [] ∧ s.st = .digitsSlow ∧ s.k = 0 ∧
    (0x0E#8).extractLsb' 0 6 ∈ s.cfg.deviceCodes ∧ ((0x1F#8).extractLsb' 0 6).extractLsb' 4 2 = 0b01#2 :=
  ⟨rfl, rfl, rfl, rfl, by decide, by decide⟩

theorem witness_SlowDigitRows :
    let s := fun k => decoderAt .digitsSlow k [decoderByte 0x0D#8]
    (s 0).configOk ∧ (s 0).inputs = decoderByte 0x0D#8 :: [] ∧ (s 0).st = .digitsSlow ∧
    ¬ startByte (s 0).cfg.deviceCodes ((0x0D#8).extractLsb' 0 6) ∧ (s 0).k = 0 ∧
    (s 1).k.toNat = (1 : Fin 6).val ∧ (s 4).k.toNat = (4 : Fin 6).val ∧ (s 5).k.toNat = (5 : Fin 6).val :=
  ⟨rfl, rfl, rfl, by unfold startByte; decide, rfl, rfl, rfl, rfl⟩

theorem witness_ResyncRestartsAtStartByte :
    let s := fun st k => decoderAt st k [decoderByte 0x0E#8]
    (s .digitsSlow 1).configOk ∧ (s .digitsSlow 1).inputs = decoderByte 0x0E#8 :: [] ∧
    1 ≤ (s .digitsSlow 1).k.toNat ∧ (s .digitsSlow 5).k.toNat ≤ 5 ∧ (s .digitsFast 0).k.toNat ≤ 4 ∧
    (s .digitsFast 4).k.toNat ≤ 4 ∧ (0x0E#8).extractLsb' 0 6 ∈ codes ∧
    ((0x10#8).extractLsb' 0 6).extractLsb' 4 2 = 0b01#2 :=
  ⟨rfl, rfl, by decide, by decide, by decide, by decide, by decide, by decide⟩

theorem witness_TrailingRows :
    let s := fun k => slowFrame k 0x1E#8
    (s 0).configOk ∧ (s 0).inputs = decoderByte 0x1E#8 :: [] ∧ (s 0).st = .trailingFields ∧ (s 0).k = 0 ∧
    (s 1).k = 1 :=
  ⟨rfl, rfl, rfl, rfl, rfl⟩

theorem witness_FastDigitRows :
    let s := fun k => decoderAt .digitsFast k [decoderByte 0x0F#8]
    (s 0).configOk ∧ (s 0).inputs = decoderByte 0x0F#8 :: [] ∧ (s 0).st = .digitsFast ∧
    ¬ startByte (s 0).cfg.deviceCodes ((0x0F#8).extractLsb' 0 6) ∧ (s 0).k.toNat = (0 : Fin 6).val ∧
    (s 3).k.toNat = (3 : Fin 6).val ∧ (s 4).k = 4 :=
  ⟨rfl, rfl, rfl, by unfold startByte; decide, rfl, rfl, rfl⟩

theorem witness_DecoderTimeoutAndAbort :
    let s := fun e => decoderAt .digitsSlow 5 [{ owner := .decoder, event := e }]
    (s .timeout).configOk ∧ (s .timeout).inputs = { owner := .decoder, event := .timeout } :: [] ∧
    (s .abort).inputs = { owner := .decoder, event := .abort } :: [] :=
  ⟨rfl, rfl, rfl⟩

theorem witness_ResponseByteStored :
    let s := fun r => receiverAt r goodResponse [responseByte 0x0E#8]
    (s 0).configOk ∧ (s 0).inputs = responseByte 0x0E#8 :: [] ∧ (s 0).rcnt.toNat = (0 : Fin 14).val ∧
    (s 12).rcnt.toNat = (12 : Fin 14).val :=
  ⟨rfl, rfl, rfl, rfl⟩

/-- A mismatch, a raw response, and one whose command has a layout. -/
theorem witness_ResponseCheckedThenDispatched :
    let s := receiverAt 13 goodResponse [responseByte 0x2A#8]
    s.configOk ∧ s.inputs = responseByte 0x2A#8 :: [] ∧ s.rcnt = 13 ∧
    checksumOf s.cfg.checksumRule (s.rbuf.toList.take 13) = (0x2A#8).extractLsb' 0 6 ∧
    checksumOf s.cfg.checksumRule (s.rbuf.toList.take 13) ≠ (0x2B#8).extractLsb' 0 6 ∧
    lookupFirst s.cfg.respLayout s.rbuf[3] = none ∧
    lookupFirst [(0x05#6, [LayoutField.mk "X".toList [4]])] s.rbuf[3] = some [LayoutField.mk "X".toList [4]] :=
  ⟨rfl, rfl, rfl, by decide, by decide, by decide, by decide⟩

theorem witness_ResponseTimeoutAndAbort :
    let s := fun e => receiverAt 13 goodResponse [{ owner := .response, event := e }]
    (s .timeout).configOk ∧ (s .timeout).inputs = { owner := .response, event := .timeout } :: [] ∧
    (s .abort).inputs = { owner := .response, event := .abort } :: [] :=
  ⟨rfl, rfl, rfl⟩

/-- No parameter, and nine of the largest value. -/
theorem witness_EncodeWritesFrame :
    63 < 64 ∧ (List.replicate 9 63).length ≤ 9 ∧ (∀ v ∈ List.replicate 9 63, v < 64) ∧ ([] : List Nat).length ≤ 9 := by
  decide

theorem witness_EncodeRefusesOutOfRange :
    9 < (List.replicate 10 0).length ∧ 64 ≤ 64 ∧ (∃ v ∈ [0, 64], 64 ≤ v) ∧ [0, 64].length ≤ 9 ∧
    (∀ v ∈ List.replicate 10 0, v < 64) := by
  decide

theorem witness_PairByteTable :
    State.reset.cfg.nibbleOrder = .lowbitLownib ∧ highFirst.cfg.nibbleOrder = .lowbitHighnib := by
  decide

/-- The first bad byte at index 0 and at index 41. -/
theorem witness_ContractNamesFirstBadByte :
    let p := (Vector.replicate 42 0x0F#8).set 41 0xF1#8
    p[(41 : Fin 42)] ∉ [0x00#8, 0x0F#8, 0xF0#8, 0xFF#8] ∧
    (∀ j : Fin 42, j < 41 → p[j] ∈ [0x00#8, 0x0F#8, 0xF0#8, 0xFF#8]) ∧
    (Vector.replicate 42 0x10#8)[(0 : Fin 42)] ∉ [0x00#8, 0x0F#8, 0xF0#8, 0xFF#8] := by
  decide

theorem witness_ContractInvertsCanonicalBlock :
    ∀ j : Fin 42, encodedBlock[j] ∈ [0x00#8, 0x0F#8, 0xF0#8, 0xFF#8] := by
  decide

theorem witness_EncodeContractRoundTrip :
    5 < 64 ∧ [1].length ≤ 9 ∧ (∀ v ∈ [1], v < 64) ∧
    (nextState (exec (.encode 5 [1]) State.reset)).isSome = true := by
  decide

/-- One byte changed: the last one, and the first one. -/
theorem witness_SingleByteCorruptionDetected :
    let s := receiverAt 13 goodResponse []
    let s' := receiverAt 13 (goodResponse.set 0 0x3F#6) []
    s'.cfg = s.cfg ∧ checksumOf s.cfg.checksumRule (s.rbuf.toList.take 13) = 0x2A#6 ∧
    (s.rbuf.set 13 0x2B#6)[(13 : Fin 14)] ≠ (s.rbuf.set 13 0x2A#6)[(13 : Fin 14)] ∧
    (∀ j : Fin 14, j ≠ 13 → (s.rbuf.set 13 0x2B#6)[j] = (s.rbuf.set 13 0x2A#6)[j]) ∧
    (s'.rbuf.set 13 0x2A#6)[(0 : Fin 14)] ≠ (s.rbuf.set 13 0x2A#6)[(0 : Fin 14)] ∧
    (∀ j : Fin 14, j ≠ 0 → (s'.rbuf.set 13 0x2A#6)[j] = (s.rbuf.set 13 0x2A#6)[j]) := by
  decide

/-- A code for every clause: known, opaque at 32, and the six named ones. -/
theorem witness_UnitCorrectRow :
    State.reset.configOk ∧ 32 ≤ (0x20#8).toNat ∧ (0x1A#8).toNat = State.reset.cfg.named.i1.toNat ∧
    (0x1B#8).toNat = State.reset.cfg.named.i2.toNat ∧ (0x1C#8).toNat = State.reset.cfg.named.c.toNat ∧
    (0x1D#8).toNat = State.reset.cfg.named.dB.toNat ∧ (0x1E#8).toNat = State.reset.cfg.named.p1.toNat ∧
    (0x1F#8).toNat = State.reset.cfg.named.p2.toNat :=
  ⟨rfl, by decide, by decide, by decide, by decide, by decide, by decide, by decide⟩

/-- A configuration with labels, and a correction of each kind, for codes below 32. -/
def labelled : State :=
  { State.reset with cfg := { Config.default with
      unitLabel := [(0x02#5, "A".toList)],
      fallbackLabel := [(0x23#8, "x23".toList)],
      correction := Config.default.correction ++ [(0x02#5, .add 1), (0x03#5, .const 0), (0x04#5, .id)] } }

/-- Codes from 2 to 25: listed and unlisted, in each of the tables. -/
theorem witness_UnitCorrectRow_tables :
    labelled.configOk ∧ (0x02#8).toNat < 32 ∧ 0x02#8 ≠ 0x01#8 ∧
    lookupFirst labelled.cfg.unitLabel ((0x02#8).extractLsb' 0 5) = some "A".toList ∧
    lookupFirst labelled.cfg.unitLabel ((0x1F#8).extractLsb' 0 5) = none ∧
    lookupFirst labelled.cfg.fallbackLabel 0x23#8 = some "x23".toList ∧
    lookupFirst labelled.cfg.correction ((0x02#8).extractLsb' 0 5) = some (.add 1) ∧
    lookupFirst labelled.cfg.correction ((0x03#8).extractLsb' 0 5) = some (.const 0) ∧
    lookupFirst labelled.cfg.correction ((0x04#8).extractLsb' 0 5) = some .id ∧
    lookupFirst labelled.cfg.correction ((0x05#8).extractLsb' 0 5) = none :=
  ⟨rfl, by decide, by decide, by decide, by decide, by decide, by decide, by decide, by decide, by decide⟩

/-- The two ends of the range: -2 and 8. -/
theorem witness_CorrectedPositionRange :
    correctionKind State.reset.cfg 0x1E#8 ∈ [Correction.id, .add 1, .add (-2), .const 3] ∧
    correctionKind State.reset.cfg 0x1A#8 ∈ [Correction.id, .add 1, .add (-2), .const 3] ∧
    (correct State.reset.cfg 0x1E#8 0).2 = -2 ∧ (correct State.reset.cfg 0x1A#8 7).2 = 8 ∧
    ∃ (t : State) (unit : Text), exec (.unitCorrect 0x1A#8 7) State.reset = .next t ∧ t.out = .corrected unit 8 :=
  ⟨by decide, by decide, by decide, by decide, _, _, rfl, rfl⟩

/-- Positions at the edges of FormatRow's and FormatAtTheEdges' clauses. -/
theorem witness_FormatRow :
    let d : List Logical := [1, 2, 3, 4, 5]
    (∀ x ∈ d, x.toNat ≤ 9) ∧ (-1 : Int) < 0 ∧ (1 : Int) ≤ 1 ∧ (1 : Int) ≤ d.length ∧ (5 : Int) ≤ d.length ∧
    (d.length : Int) < 6 := by
  decide

theorem witness_FormatTextShape :
    (∀ x ∈ ([0, 9] : List Logical), x.toNat ≤ 9) ∧ formatValue [0, 9] (-1) true false = some "-.009".toList := by
  decide

theorem witness_FastMeasurementFields :
    State.reset.lkFclo = none ∧ ({ State.reset with lkFclo := some 1, lkFchi := some 2 } : State).lkFclo = some 1 := by
  decide

/-- An operation of each kind of row, where it is read. -/
theorem witness_DecodeOfEncode :
    (∀ c ∈ codes, c.toNat < 16) ∧ (Instr.awaitDev 0x0E#6).wellFormed codes = true ∧
    (Instr.awaitDev 0x0E#6).readAt ⟨.awaitStart, 0, 0⟩ = true ∧ (Instr.slowDigit 0x3F#6).wellFormed codes = true ∧
    (Instr.slowDigit 0x3F#6).readAt ⟨.digitsSlow, 5, 0⟩ = true ∧
    (Instr.respByte 0x3F#6).readAt ⟨.awaitStart, 0, 12⟩ = true := by
  decide

theorem witness_DecodeReadsWhatRowsSay :
    decode codes ⟨.trailingFields, 1, 0⟩ (decoderByte 0xFF#8) = .ok (.trailRate 0x3F#6) := rfl

/-- A frame with digits captured satisfies the invariant. -/
def midFrame (x : Input) : State :=
  { decoderAt .digitsSlow 5 [x] with
    dev := 0x0E#6, rng := 0xA#4, dp := 2, sgn := true, ovl := true, dig := #v[1, 2, 0x2A, 4, 5, 0] }

theorem midFrame_inv (x : Input) : (midFrame x).Inv :=
  ⟨rfl, fun _ => rfl, (by decide : ∀ d ∈ ([1, 2, 0x2A, 4, 5] : List Logical), isStart codes d = false), fun _ => rfl,
    fun _ => (by decide : 0xA#4 = rangeNibble true 2), rfl, rfl, fun h => h⟩

theorem witness_BlockIsTotal :
    let x := request (.format [1, 2, 3, 4, 5] 0 false false)
    (midFrame x).configOk ∧ (midFrame x).Inv ∧ (midFrame x).inputs = x :: [] ∧
    ∀ (d : List Logical) (dp : Int) (sgn ovl : Bool), x.event = .format d dp sgn ovl → d.length = 5 ∨ d.length = 6 :=
  ⟨rfl, midFrame_inv _, rfl, fun d dp sgn ovl h => by cases h; exact .inl rfl⟩

theorem witness_StepRunsDecodedOperation :
    (midFrame (decoderByte 0x06#8)).configOk ∧ (midFrame (decoderByte 0x06#8)).inputs = decoderByte 0x06#8 :: [] ∧
    decode (midFrame (decoderByte 0x06#8)).cfg.deviceCodes (midFrame (decoderByte 0x06#8)).position
      (decoderByte 0x06#8) = .ok (.slowDigit 0x06#6) :=
  ⟨rfl, rfl, rfl⟩

theorem witness_StepWaitsWithoutEvent : State.reset.configOk ∧ State.reset.inputs = [] := ⟨rfl, rfl⟩

/-- A device code at the bound; a wrong correction of the first and of the last named code; two named codes that
coincide; and, at 0x0F, an admitted configuration. -/
theorem witness_ConfigRefusedExactly :
    let n := Config.default.named
    let bad : Config := { Config.default with deviceCodes := [0x0F#6, 0x10#6] }
    let noI1 : Config := { Config.default with correction := Config.default.correction.drop 1 }
    let noP2 : Config := { Config.default with correction := Config.default.correction.take 5 }
    let twice : Config := { Config.default with named := { n with i2 := n.i1 } }
    let good : Config := { Config.default with deviceCodes := [0x0F#6] }
    ¬ (∀ m ∈ bad.deviceCodes, m.toNat < 16) ∧ dpCorrection noI1 n.i1 ≠ .add 1 ∧ dpCorrection noP2 n.p2 ≠ .add (-2) ∧
    ¬ [n.i1, n.i1, n.c, n.dB, n.p1, n.p2].Nodup ∧
    refusal (step { State.reset with cfg := noP2 }) = some (.configRefused .correctionTable) ∧
    refusal (step { State.reset with cfg := twice }) = some (.configRefused .correctionTable) ∧
    (∀ m ∈ good.deviceCodes, m.toNat < 16) ∧ [n.i1, n.i2, n.c, n.dB, n.p1, n.p2].Nodup ∧
    dpCorrection good n.i1 = .add 1 ∧ dpCorrection good n.i2 = .add 1 ∧ dpCorrection good n.c = .add 1 ∧
    dpCorrection good n.dB = .const 3 ∧ dpCorrection good n.p1 = .add (-2) ∧ dpCorrection good n.p2 = .add (-2) := by
  decide

theorem witness_RejectionsByName :
    legalDecoder .statusBytes 0 = false ∧ legalDecoder .digitsFast 5 = false ∧
    legalDecoder .trailingFields 2 = false ∧ 13 < (14#4).toNat ∧ 6 ≤ (6#3).toNat ∧
    ([1, 2, 3, 4] : List Logical).length ≠ 5 ∧ ([1, 2, 3, 4] : List Logical).length ≠ 6 := by
  decide

theorem witness_StepKeepsBlockInvariant :
    (midFrame (decoderByte 0x06#8)).Inv ∧
      ∃ t, step (midFrame (decoderByte 0x06#8)) = .next t ∧ t.st = .trailingFields :=
  ⟨midFrame_inv _, _, rfl, rfl⟩

/-- A byte for each consumer, and a request. -/
theorem witness_ConsumersDoNotInterfere :
    (∃ t, step (midFrame (decoderByte 0x06#8)) = .next t) ∧ (∃ t, step (midFrame (responseByte 0x06#8)) = .next t) ∧
    ∃ t, step (midFrame (request (.pair 0b01#2))) = .next t :=
  ⟨⟨_, rfl⟩, ⟨_, rfl⟩, _, rfl⟩

theorem witness_HighBitsUnobserved : 0x0E#8 &&& 0x3F#8 = 0xCE#8 &&& 0x3F#8 := by decide

/-- Both kinds of measurement, for NoPartialMeasurement and LastKnownHidden. -/
theorem witness_NoPartialMeasurement :
    (∃ (t : State) (m : Measurement), step (slowFrame 1 0x1E#8) = .next t ∧ t.out = .measurement m) ∧
    ∃ (t : State) (m : Measurement), step (fastFrame 0x04#8) = .next t ∧ t.out = .measurement m :=
  ⟨⟨_, _, rfl, rfl⟩, _, _, rfl, rfl⟩

/-- A slow and a fast frame, the fast one overloaded. -/
theorem witness_OverloadGivesNoValue :
    ((slowFrame 1 0x1E#8).Inv ∧ ∃ (t : State) (m : Measurement), step (slowFrame 1 0x1E#8) = .next t ∧
      t.out = .measurement m ∧ m.mode = .slow) ∧
    (fastFrame 0x04#8).Inv ∧ ∃ (t : State) (m : Measurement), step (fastFrame 0x04#8) = .next t ∧
      t.out = .measurement m ∧ m.mode = .fast ∧ m.overload = true :=
  ⟨⟨⟨by decide, by decide, by decide, by decide, fun _ => by decide, by unfold lastKnownOk; decide⟩, _, _, rfl, rfl,
      rfl⟩,
    ⟨by decide, by decide, by decide, by decide, fun h => absurd h (by decide), by unfold lastKnownOk; decide⟩, _, _,
      rfl, rfl, rfl, rfl⟩

/-- A step that writes the last-known registers, and one whose output depends on them. -/
theorem witness_LastKnownHidden :
    (∃ t, step (settingBlock 0x0E#8) = .next t ∧ ¬ sameLastKnown (settingBlock 0x0E#8) t) ∧
    ∃ t, step (fastFrame 0x04#8) = .next t :=
  ⟨⟨_, rfl, by unfold sameLastKnown; decide⟩, _, rfl⟩

/-- A timeout of the decoder, an abort of the receiver, and a checksum mismatch. -/
theorem witness_ErrorsArePrecise :
    output (step (midFrame { owner := .decoder, event := .timeout })) = some .channelTimeout ∧
    output (step (midFrame { owner := .response, event := .abort })) = some .aborted ∧
    output (step (receiverAt 13 goodResponse [responseByte 0x2B#8])) = some .checksumMismatch := by
  decide

theorem witness_SinkTakesWireBytesOnly :
    ∃ t, step (decoderAt .awaitStart 0 [request (.encode 5 [1])]) = .next t ∧ t.out = .sent := ⟨_, rfl, rfl⟩

/-- The bytes of L1.1. -/
theorem witness_SlowFrameRefinesItsBytes :
    let d : Vector Byte 6 := #v[0x01, 0x02, 0x2A, 0x04, 0x05, 0x0D]
    let s := decoderAt .awaitStart 0
      (([0x0E#8, 0x01, 0x00, 0x00, 0x02] ++ d.toList ++ [0x00, 0x00]).map decoderByte ++ [])
    s.configOk ∧ s.st = .awaitStart ∧ s.k = 0 ∧ (0x0E#8).extractLsb' 0 6 ∈ s.cfg.deviceCodes ∧
    ∀ i : Fin 6, ¬ startByte s.cfg.deviceCodes (d[i].extractLsb' 0 6) :=
  ⟨rfl, rfl, rfl, by decide, by unfold startByte; decide⟩

/-- The bytes of L1.2. -/
theorem witness_FastFrameRefinesItsBytes :
    let d : Vector Byte 5 := #v[0x01, 0x0F, 0x02, 0x03, 0x04]
    let s := decoderAt .awaitStart 0 (([0x1F#8] ++ d.toList).map decoderByte ++ [])
    s.configOk ∧ s.st = .awaitStart ∧ s.k = 0 ∧ (0x1F#8).extractLsb' 4 2 = 0b01#2 ∧
    ∀ i : Fin 5, ¬ startByte s.cfg.deviceCodes (d[i].extractLsb' 0 6) :=
  ⟨rfl, rfl, rfl, by decide, by unfold startByte; decide⟩

theorem witness_SettingBlocksMayRepeat :
    let s := decoderAt .digitsSlow 0 ([0x0E#8, 0x02, 0x00, 0x00, 0x03].map decoderByte ++ [])
    s.configOk ∧ s.st = .digitsSlow ∧ s.k = 0 ∧ (0x0E#8).extractLsb' 0 6 ∈ s.cfg.deviceCodes :=
  ⟨rfl, rfl, rfl, by decide⟩

/-- A call that ends at once, and one that goes on. -/
theorem witness_NextMeasurementReturns :
    (∃ (o : Output) (t : State), nextMeasurement 1 (fastFrame 0x04#8) = some (o, t)) ∧
    (∃ b, decoderByte 0x13#8 = decoderByte b) ∧ (∃ t, step (fastFrame 0x13#8) = .next t ∧ t.out = .resync) ∧
    ∃ (t : State) (m : Measurement), step (fastFrame 0x04#8) = .next t ∧ t.out = .measurement m :=
  ⟨⟨_, _, rfl⟩, ⟨_, rfl⟩, ⟨_, rfl, rfl⟩, _, _, rfl, rfl⟩

end Sys2Proof.Tests
end

section
/-! The last-known registers (spec/10_state.md R31). `LastKnownUse` says once what a step can have to do with them; it
is proved per operation, carried to the step, and both halves of the statement LastKnownHidden follow from it. -/

namespace Sys2Proof.Machine

/-- With its own last-known values written back, a state is unchanged. -/
@[simp] theorem withLastKnown_self (s : State) : withLastKnown s s.lkFclo s.lkFchi s.lkSpecial s.lkRate = s := rfl

/-- A digit row that answers next took its action on the register its counter names. -/
theorem withDigitRegister_eq_next {s t : State} {act : Fin 6 → State} (h : withDigitRegister s act = .next t) :
    ∃ i : Fin 6, s.k.toNat = i.val ∧ t = act i := by
  rcases withDigitRegister_cases s act with ⟨hk, he⟩ | ⟨-, he⟩
  · exact ⟨⟨s.k.toNat, hk⟩, rfl, by simpa [he, eq_comm] using h⟩
  · simp [he] at h

/-- RESP.BYTE, when it answers next, took its action on the register its count names. -/
theorem withResponseRegister_eq_next {s t : State} {act : Fin 14 → State}
    (h : withResponseRegister s act = .next t) : ∃ i : Fin 14, s.rcnt.toNat = i.val ∧ t = act i := by
  rcases withResponseRegister_cases s act with ⟨hr, he⟩ | ⟨-, he⟩
  · exact ⟨⟨s.rcnt.toNat, hr⟩, rfl, by simpa [he, eq_comm] using h⟩
  · simp [he] at h

/-- Where a slow digit leads does not depend on the last-known registers. -/
theorem afterSlowDigit_withLastKnown (k : BitVec 3) (s : State) (lo hi : Option Nibble) (special : Option Byte)
    (rate : Option Logical) :
    afterSlowDigit k (withLastKnown s lo hi special rate) =
      withLastKnown (afterSlowDigit k s) lo hi special rate := by
  unfold afterSlowDigit
  split <;> rfl

/-- What an action `f` that takes `s` to `t` has to do with the last-known registers, told by what it does from `s`
with any other last-known values. -/
inductive LastKnownUse (f : State → Host.Outcome State Fault Refusal) (s t : State) : Prop where
  /-- It neither reads nor writes them. -/
  | blind (run : ∀ lo hi special rate,
      f (withLastKnown s lo hi special rate) = .next (withLastKnown t lo hi special rate))
  /-- It completes a setting block: it writes two of them and reads none (R110). -/
  | setting (r : Setting) (out : t.out = .setting r) (run : ∀ lo hi special rate,
      f (withLastKnown s lo hi special rate) = .next (withLastKnown t t.lkFclo hi t.lkSpecial rate))
  /-- It completes a slow frame: it writes all four and reads none (R115). -/
  | slow (m : Measurement) (mode : m.mode = .slow) (out : t.out = .measurement m) (run : ∀ lo hi special rate,
      f (withLastKnown s lo hi special rate) = .next t)
  /-- It completes a fast frame: it reads them for its measurement and writes none (R117). -/
  | fast (m : Measurement) (mode : m.mode = .fast) (out : t.out = .measurement m) (run : ∀ lo hi special rate,
      ∃ m' : Measurement, m'.mode = .fast ∧ f (withLastKnown s lo hi special rate) =
        .next ((withLastKnown t lo hi special rate).emit (.measurement m')))

namespace LastKnownUse
variable {f g : State → Host.Outcome State Fault Refusal} {s u t : State}

/-- The use is that of another action which answers the same, whatever the last-known registers hold. -/
theorem congr (hu : LastKnownUse f s t) (hfg : ∀ lo hi special rate,
    g (withLastKnown u lo hi special rate) = f (withLastKnown s lo hi special rate)) : LastKnownUse g u t := by
  cases hu with
  | blind run => exact .blind fun lo hi special rate => (hfg lo hi special rate).trans (run lo hi special rate)
  | setting r out run =>
    exact .setting r out fun lo hi special rate => (hfg lo hi special rate).trans (run lo hi special rate)
  | slow m mode out run =>
    exact .slow m mode out fun lo hi special rate => (hfg lo hi special rate).trans (run lo hi special rate)
  | fast m mode out run =>
    exact .fast m mode out fun lo hi special rate => hfg lo hi special rate ▸ run lo hi special rate

/-- What writes a last-known register completes a setting block or a slow frame: the other uses, run from the values
`s` itself holds, leave them. -/
theorem out_of_not_same (hu : LastKnownUse f s t) (hf : f s = .next t) (hne : ¬ sameLastKnown s t) :
    (∃ r : Setting, t.out = .setting r) ∨ ∃ m : Measurement, m.mode = .slow ∧ t.out = .measurement m := by
  cases hu with
  | blind run =>
    have ht : t = withLastKnown t s.lkFclo s.lkFchi s.lkSpecial s.lkRate := by
      simpa [hf] using run s.lkFclo s.lkFchi s.lkSpecial s.lkRate
    exact absurd (by rw [ht]; exact ⟨rfl, rfl, rfl, rfl⟩) hne
  | setting r out => exact .inl ⟨r, out⟩
  | slow m mode out => exact .inr ⟨m, mode, out⟩
  | fast m _ _ run =>
    obtain ⟨m', -, ht⟩ := run s.lkFclo s.lkFchi s.lkSpecial s.lkRate
    have ht : t = (withLastKnown t s.lkFclo s.lkFchi s.lkSpecial s.lkRate).emit (.measurement m') := by
      simpa [hf] using ht
    exact absurd (by rw [ht]; exact ⟨rfl, rfl, rfl, rfl⟩) hne

/-- With other last-known values the action answers a state that differs in them and, after a fast frame, in the
measurement only. -/
theorem exists_next_withLastKnown (hu : LastKnownUse f s t) (lo hi : Option Nibble) (special : Option Byte)
    (rate : Option Logical) :
    ∃ t' : State, f (withLastKnown s lo hi special rate) = .next t' ∧
      { withLastKnown t' t.lkFclo t.lkFchi t.lkSpecial t.lkRate with out := t.out } = t ∧
      (t'.out = t.out ∨ ∃ m m' : Measurement, m.mode = .fast ∧ m'.mode = .fast ∧ t.out = .measurement m ∧
        t'.out = .measurement m') := by
  cases hu with
  | blind run => exact ⟨_, run lo hi special rate, rfl, .inl rfl⟩
  | setting _ _ run => exact ⟨_, run lo hi special rate, rfl, .inl rfl⟩
  | slow _ _ _ run => exact ⟨_, run lo hi special rate, rfl, .inl rfl⟩
  | fast m mode out run =>
    obtain ⟨m', mode', ht⟩ := run lo hi special rate
    exact ⟨_, ht, rfl, .inr ⟨m, m', mode, mode', out, rfl⟩⟩

/-- An action that answers next from every state, in a way that does not look at the last-known registers, is blind to
them. -/
theorem of_forall_next {act : State → State} (h : f s = .next t) (hf : ∀ u, f u = .next (act u))
    (hact : ∀ lo hi special rate,
      act (withLastKnown s lo hi special rate) = withLastKnown (act s) lo hi special rate) : LastKnownUse f s t := by
  obtain rfl : act s = t := by simpa [hf] using h
  exact .blind fun lo hi special rate => (hf _).trans (congrArg _ (hact lo hi special rate))

end LastKnownUse

section
variable {s t : State}

theorem execSlowDigit_lastKnownUse {d : Logical} (h : execSlowDigit d s = .next t) :
    LastKnownUse (execSlowDigit d) s t := by
  obtain ⟨j, hk, rfl⟩ := withDigitRegister_eq_next h
  refine .blind fun lo hi special rate =>
    (withDigitRegister_at (s := withLastKnown s lo hi special rate) hk _).trans ?_
  exact congrArg (fun u => Host.Outcome.next (State.emit u .idle))
    (afterSlowDigit_withLastKnown s.k (s.captureDigit j d) lo hi special rate)

theorem execFastDigit_lastKnownUse {d : Logical} (h : execFastDigit d s = .next t) :
    LastKnownUse (execFastDigit d) s t := by
  obtain ⟨j, hk, rfl⟩ := withDigitRegister_eq_next h
  exact .blind fun lo hi special rate => withDigitRegister_at (s := withLastKnown s lo hi special rate) hk _

theorem execRespByte_lastKnownUse {m : Logical} (h : execRespByte m s = .next t) :
    LastKnownUse (execRespByte m) s t := by
  obtain ⟨j, hr, rfl⟩ := withResponseRegister_eq_next h
  exact .blind fun lo hi special rate => withResponseRegister_at (s := withLastKnown s lo hi special rate) hr _

/-- Whether ENCODE is refused depends on its operands only. -/
theorem execEncode_lastKnownUse {cmd : Nat} {params : List Nat} (h : execEncode cmd params s = .next t) :
    LastKnownUse (execEncode cmd params) s t := by
  cases hr : encodeRefusal cmd params with
  | some r =>
    exact .of_forall_next (act := (·.emit (.encodeRefused r))) h (fun u => by simp only [execEncode, hr])
      fun _ _ _ _ => rfl
  | none =>
    exact .of_forall_next
      (act := fun u => (u.chanWrite (expandFrame u.cfg.nibbleOrder (commandFrame u.cfg cmd params))).emit .sent) h
      (fun u => by simp only [execEncode, hr]) fun _ _ _ _ => rfl

/-- Whether CONTRACT finds a bad byte depends on its operand only. -/
theorem execContract_lastKnownUse {p : Vector Byte 42} (h : execContract p s = .next t) :
    LastKnownUse (execContract p) s t := by
  cases hb : firstBadIndex p with
  | some i =>
    exact .of_forall_next (act := (·.emit (.invalid i))) h
      (fun u => by simp only [execContract, contractFrame, hb]) fun _ _ _ _ => rfl
  | none =>
    exact .of_forall_next (act := fun u => u.emit (.contracted (gatherFrame u.cfg.nibbleOrder p))) h
      (fun u => by simp only [execContract, contractFrame, hb]) fun _ _ _ _ => rfl

end

/-- What each operation has to do with the last-known registers: four rows read or write them, the others are blind to
them. -/
theorem exec_lastKnownUse {i : Instr} {s t : State} (h : exec i s = .next t) : LastKnownUse (exec i) s t := by
  cases i with
  | lookSettingDev m => cases h; exact .setting s.settingRecord rfl fun _ _ _ _ => rfl
  | lookSettingFast sgn dp => cases h; exact .setting s.settingRecord rfl fun _ _ _ _ => rfl
  | trailRate rate => cases h; exact .slow (slowMeasurement rate s) rfl rfl fun _ _ _ _ => rfl
  | fastLast d =>
    cases h
    exact .fast (fastMeasurement d s) rfl rfl fun lo hi special rate =>
      ⟨fastMeasurement d (withLastKnown s lo hi special rate), rfl, rfl⟩
  | slowDigit d => exact execSlowDigit_lastKnownUse h
  | fastDigit d => exact execFastDigit_lastKnownUse h
  | respByte m => exact execRespByte_lastKnownUse h
  | encode cmd params => exact execEncode_lastKnownUse h
  | contract p => exact execContract_lastKnownUse h
  | awaitDev | awaitFast | awaitSkip | statusFclo | statusSp1 | statusSp2 | statusRange | lookDigit | slowResyncDev
  | slowResyncFast | trailFchi | fastResyncDev | fastResyncFast | decTimeout | decAbort | respLast | respTimeout
  | respAbort | checksumSub | checksumAdd | expand | pair00 | pair01 | pair10 | pair11 | unitCorrect | format =>
    cases h; exact .blind fun _ _ _ _ => rfl

/-- With no event, under an admitted configuration, the block waits (R226). -/
theorem step_empty {s : State} (hc : configRefusal s.cfg = none) (hi : s.inputs = []) : step s = .next s := by
  simp [step, readNext_empty hc hi]

/-- Under an admitted configuration a step runs the operation its event decodes to. -/
theorem step_event {s : State} {x : Input} {rest : List Input} {i : Instr} (hc : configRefusal s.cfg = none)
    (hi : s.inputs = x :: rest) (hd : decode s.cfg.deviceCodes s.position x = .ok i) :
    step s = exec i { s with inputs := rest } := by
  simp [step, readNext_event hc hi, hd]

/-- A step waits, which is blind to the last-known registers, or runs an operation: neither the configuration check
nor the decoder reads them. -/
theorem step_lastKnownUse {s t : State} (h : step s = .next t) : LastKnownUse step s t := by
  obtain ⟨hc, ⟨hi, rfl⟩ | ⟨x, rest, i, hi, hd, he⟩⟩ := step_next_cases h
  · exact .blind fun lo hi' special rate => step_empty hc hi
  · exact (exec_lastKnownUse he).congr fun lo hi' special rate =>
      step_event (s := withLastKnown s lo hi' special rate) hc hi hd

end Sys2Proof.Machine

open Sys2Proof Sys2Proof.Machine

/-- Settles O44: both halves follow from what a step can have to do with the last-known registers. -/
theorem lastKnownHidden : Obligations.LastKnownHidden :=
  ⟨fun _ _ h hne => (step_lastKnownUse h).out_of_not_same h hne,
    fun _ _ lo hi special rate h => (step_lastKnownUse h).exists_next_withLastKnown lo hi special rate⟩
end

section
/-! What goes over the wire (spec/20_memory.md R51, R53): a received byte is read through its mask only, and a step
hands the byte sink nothing, or the 42 wire bytes of one frame. -/

namespace Sys2Proof.Machine

/-- Masking sees bits 5:0 only (R51). -/
theorem maskByte_and_mask (b : Byte) : maskByte (b &&& 0x3F#8) = maskByte b := by
  rw [maskByte, BitVec.setWidth_and]
  exact BitVec.and_allOnes

/-- Either consumer decodes a byte by its masked value. -/
theorem decode_byte_congr {codes : List Logical} {p : Position} {o : Owner} {b b' : Byte}
    (h : maskByte b = maskByte b') : decode codes p ⟨o, .byte b⟩ = decode codes p ⟨o, .byte b'⟩ := by
  cases o with
  | decoder => exact congrArg (decodeFrameByte codes p.st p.k) h
  | response => exact congrArg (decodeResponseByte p.rcnt) h

/-- Under an admitted configuration a step whose event the decoder rejects is refused by the decoder's reason. -/
theorem step_rejected {s : State} {x : Input} {rest : List Input} {e : DecodeError} (hc : configRefusal s.cfg = none)
    (hi : s.inputs = x :: rest) (hd : decode s.cfg.deviceCodes s.position x = .error e) :
    step s = .refused (.rejected e) := by
  simp [step, readNext_event hc hi, hd]

/-- A step depends on its event through what the event decodes to, be it an operation or a rejection. -/
theorem step_congr_of_decode_eq {s : State} {x y : Input} (rest : List Input)
    (h : decode s.cfg.deviceCodes s.position x = decode s.cfg.deviceCodes s.position y) :
    step { s with inputs := x :: rest } = step { s with inputs := y :: rest } := by
  cases hc : configRefusal s.cfg with
  | some e =>
    calc step { s with inputs := x :: rest }
      _ = .refused (.configRefused e) := step_of_refusedConfig hc
      _ = step { s with inputs := y :: rest } := Eq.symm (step_of_refusedConfig hc)
  | none =>
    cases hy : decode s.cfg.deviceCodes s.position y with
    | error e =>
      calc step { s with inputs := x :: rest }
        _ = .refused (.rejected e) := step_rejected hc rfl (h.trans hy)
        _ = step { s with inputs := y :: rest } := Eq.symm (step_rejected hc rfl hy)
    | ok i =>
      calc step { s with inputs := x :: rest }
        _ = exec i { s with inputs := rest } := step_event hc rfl (h.trans hy)
        _ = step { s with inputs := y :: rest } := Eq.symm (step_event hc rfl hy)

/-- Every byte of an expanded frame is 0x00, 0x0F, 0xF0 or 0xFF (R82, R176). -/
theorem getElem_expandFrame_mem (order : NibbleOrder) (l : Vector Logical 14) (i : Fin 42) :
    (expandFrame order l)[i] ∈ [0x00#8, 0x0F#8, 0xF0#8, 0xFF#8] :=
  (isWireByte_iff _).1 (by simp [expandFrame, isWireByte_pairByte])

/-- Where a slow digit leads, the sink is as it was. -/
@[simp] theorem afterSlowDigit_sink (k : BitVec 3) (s : State) : (afterSlowDigit k s).sink = s.sink := by
  unfold afterSlowDigit
  split <;> rfl

/-- The response check and dispatch answers a response or a mismatch, never Sent. -/
theorem checkAndDispatch_ne_sent (cfg : Config) (r : Vector Logical 14) : checkAndDispatch cfg r ≠ .sent := by
  rcases checkAndDispatch_cases cfg r with ⟨-, h⟩ | ⟨-, h⟩ <;> simp [h]

/-- ENCODE alone writes to the sink and answers Sent, and it does both or neither (R174, R175). -/
theorem exec_sink_cases {i : Instr} {s t : State} (h : exec i s = .next t) :
    (t.sink = s.sink ∧ t.out ≠ .sent) ∨
      ∃ cmd params, i = .encode cmd params ∧
        t = (s.chanWrite (expandFrame s.cfg.nibbleOrder (commandFrame s.cfg cmd params))).emit .sent := by
  cases i with
  | encode cmd params =>
    rcases execEncode_cases cmd params s with ⟨r, -, he⟩ | ⟨-, he⟩
    · cases he.symm.trans h; exact .inl ⟨rfl, nofun⟩
    · cases he.symm.trans h; exact .inr ⟨cmd, params, rfl, rfl⟩
  | contract p =>
    rcases execContract_cases p s with ⟨r, -, he⟩ | ⟨-, he⟩ <;>
      (cases he.symm.trans h; exact .inl ⟨rfl, nofun⟩)
  | slowDigit d =>
    obtain ⟨j, -, rfl⟩ := withDigitRegister_eq_next (show execSlowDigit d s = .next t from h)
    exact .inl ⟨by simp, nofun⟩
  | fastDigit d =>
    obtain ⟨j, -, rfl⟩ := withDigitRegister_eq_next (show execFastDigit d s = .next t from h)
    exact .inl ⟨rfl, nofun⟩
  | respByte m =>
    obtain ⟨j, -, rfl⟩ := withResponseRegister_eq_next (show execRespByte m s = .next t from h)
    exact .inl ⟨rfl, nofun⟩
  | respLast m => cases h; exact .inl ⟨rfl, checkAndDispatch_ne_sent s.cfg _⟩
  | awaitDev | awaitFast | awaitSkip | statusFclo | statusSp1 | statusSp2 | statusRange | lookSettingDev
  | lookSettingFast | lookDigit | slowResyncDev | slowResyncFast | trailFchi | trailRate | fastLast | fastResyncDev
  | fastResyncFast | decTimeout | decAbort | respTimeout | respAbort | checksumSub | checksumAdd | expand | pair00
  | pair01 | pair10 | pair11 | unitCorrect | format =>
    cases h; exact .inl ⟨rfl, nofun⟩

end Sys2Proof.Machine

open Sys2Proof Sys2Proof.Machine

/-- Settles O41: the decoder reads a byte through its mask, and a step reads it through the decoder. -/
theorem highBitsUnobserved : Obligations.HighBitsUnobserved := by
  intro s o b b' rest h
  have hmask : maskByte b = maskByte b' := by rw [← maskByte_and_mask b, h, maskByte_and_mask]
  exact step_congr_of_decode_eq rest (decode_byte_congr hmask)

/-- Settles O46: of the operations ENCODE alone writes, and it writes an expanded frame. -/
theorem sinkTakesWireBytesOnly : Obligations.SinkTakesWireBytesOnly := by
  intro s t x rest hx hs
  obtain ⟨-, ⟨hnil, -⟩ | ⟨y, rest', i, -, -, he⟩⟩ := step_next_cases hs
  · simp [hx] at hnil
  · rcases exec_sink_cases he with hkeep | ⟨cmd, params, -, rfl⟩
    · exact .inl hkeep
    · exact .inr ⟨rfl, commandFrame s.cfg cmd params, _, rfl, rfl, getElem_expandFrame_mem _ _⟩
end

section
/-! The rows of the frame decoder at a frame start and at the digit positions (spec/40_frame_decoder.md R103 to R105,
R111, R112, R116, R117). A byte for the decoder runs the row its position and class select; each row's next state is
then its meaning written out. -/

namespace Sys2Proof.Machine

/-- Under an admitted configuration every device code is below 0x10 (R222). -/
theorem deviceCode_lt_of_configOk {s : State} (hc : s.configOk) : ∀ c ∈ s.cfg.deviceCodes, c.toNat < 16 := by
  have hnone : badDeviceCode s.cfg.deviceCodes = none := by
    unfold State.configOk configRefusal at hc
    split at hc
    · cases hc
    · assumption
  simpa [badDeviceCode] using hnone

/-- Under an admitted configuration a fast byte is no device code (R70). -/
theorem not_dev_of_fast {s : State} (hc : s.configOk) {m : Logical} (h : isFast m = true) :
    isDev s.cfg.deviceCodes m = false := by
  cases hd : isDev s.cfg.deviceCodes m with
  | false => rfl
  | true => simp [not_fast_of_dev (deviceCode_lt_of_configOk hc) hd] at h

theorem isStart_eq_false_iff {codes : List Logical} {m : Logical} :
    isStart codes m = false ↔ ¬ startByte codes m := by
  rw [← Bool.not_eq_true, isStart_iff, startByte]

/-- Under an admitted configuration a byte for the decoder runs the row that its position and masked value select. -/
theorem step_decoderByte {s : State} {b : Byte} {rest : List Input} {st : Phase} {k : BitVec 3} {i : Instr}
    (hc : s.configOk) (hi : s.inputs = decoderByte b :: rest) (hst : s.st = st) (hk : s.k = k)
    (hd : decodeFrameByte s.cfg.deviceCodes st k (b.extractLsb' 0 6) = .ok i) :
    step s = exec i { s with inputs := rest } := by
  refine step_event hc hi ?_
  rw [decode_decoderByte, maskByte_eq_extract, State.position_st, State.position_k, hst, hk, hd]

/-- Before digit 5 a slow digit leads to the next one (R112). -/
theorem afterSlowDigit_of_ne {k : BitVec 3} (h : k ≠ 5) (s : State) :
    afterSlowDigit k s = { s with k := k + 1 } := if_neg h

/-- Digit 5 leads to the trailing fields (R112). -/
theorem afterSlowDigit_five (s : State) : afterSlowDigit 5 s = s.goTo .trailingFields 0 := rfl

/-- SLOW.DIGIT at a digit before digit 5: the digit is captured and the next one awaited (R112). -/
theorem execSlowDigit_of_lt {s : State} {i : Fin 6} (hk : s.k.toNat = i.val) (hi : i.val < 5) (m : Logical) :
    execSlowDigit m s =
      .next { s with dig := s.dig.set i.val m, ovl := overloadAfter s.ovl m, k := s.k + 1, out := .idle } := by
  have hne : s.k ≠ 5 := fun h => by simp [h] at hk; omega
  unfold execSlowDigit
  rw [withDigitRegister_at hk, afterSlowDigit_of_ne hne]
  rfl

/-- SLOW.DIGIT at digit 5: the digit is captured and the trailing fields begin (R112). -/
theorem execSlowDigit_five {s : State} {i : Fin 6} (hk : s.k.toNat = i.val) (hi : i.val = 5) (m : Logical) :
    execSlowDigit m s =
      .next { s with dig := s.dig.set i.val m, ovl := overloadAfter s.ovl m, st := .trailingFields, k := 0,
                     out := .idle } := by
  have h5 : s.k = 5 := BitVec.eq_of_toNat_eq (hk.trans hi)
  unfold execSlowDigit
  rw [withDigitRegister_at hk, h5, afterSlowDigit_five]
  rfl

/-- FAST.DIGIT at a digit of the buffer: the digit is captured and the next one awaited (R116). -/
theorem execFastDigit_at {s : State} {i : Fin 6} (hk : s.k.toNat = i.val) (m : Logical) :
    execFastDigit m s =
      .next { s with dig := s.dig.set i.val m, ovl := overloadAfter s.ovl m, k := s.k + 1, out := .idle } :=
  withDigitRegister_at hk _

/-- The first four digits of the buffer, by name. -/
theorem take_four_toList (d : Vector Logical 6) : d.toList.take 4 = [d[0], d[1], d[2], d[3]] := by
  simp [List.take_add_one]

/-- FAST.LAST: the fifth digit is captured, the frame ends, and its measurement has the fifth digit's overload taken
in (R117). -/
theorem execFastLast_eq (s : State) (m : Logical) :
    execFastLast m s =
      .next { s with dig := s.dig.set 4 m, ovl := overloadAfter s.ovl m, st := .awaitStart, k := 0,
                     out := .measurement (assembleFast s.cfg (knownFunctionCode s.lkFclo s.lkFchi) s.lkSpecial
                       s.lkRate [s.dig[0], s.dig[1], s.dig[2], s.dig[3], m] s.dp s.sgn (overloadAfter s.ovl m)) } := by
  have hm : fastMeasurement m s = assembleFast s.cfg (knownFunctionCode s.lkFclo s.lkFchi) s.lkSpecial s.lkRate
      [s.dig[0], s.dig[1], s.dig[2], s.dig[3], m] s.dp s.sgn (overloadAfter s.ovl m) := by
    rw [fastMeasurement, take_four_toList]
    rfl
  unfold execFastLast
  rw [hm]
  rfl

end Sys2Proof.Machine

open Sys2Proof Sys2Proof.Machine

/-- Settles O1: the class of the byte selects the row; a fast byte is no device code, since those are below 0x10. -/
theorem frameStartRows : Obligations.FrameStartRows := by
  intro s b rest hc hi hst hk m t
  refine ⟨fun hdev => ⟨?_, rfl⟩, fun hfast => ⟨?_, rfl⟩, fun hno => ⟨?_, rfl⟩⟩
  · exact step_decoderByte hc hi hst hk (decodeFrameByte_await_dev (isDev_iff.2 hdev))
  · have hf : isFast m = true := isFast_iff.2 hfast
    rw [← dpField_eq_extract]
    exact step_decoderByte hc hi hst hk (decodeFrameByte_await_fast (not_dev_of_fast hc hf) hf)
  · exact step_decoderByte hc hi hst hk (decodeFrameByte_await_other (isStart_eq_false_iff.2 hno))

/-- Settles O4: the position selects the row; after SLOW.DIGIT the position follows by whether the digit was the
sixth. -/
theorem slowDigitRows : Obligations.SlowDigitRows := by
  intro s b rest hc hi hst hno m t ovl'
  have hother := isStart_eq_false_iff.2 hno
  refine ⟨fun hk => ⟨step_decoderByte hc hi hst hk (decodeFrameByte_look_other hother), rfl⟩, fun i h1 hk => ⟨?_, ?_⟩⟩
  · exact step_decoderByte hc hi hst rfl (decodeFrameByte_slow_other (by omega) (by omega) hother)
  · split
    case isTrue h5 => exact execSlowDigit_five (s := t) hk h5 m
    case isFalse h5 => exact execSlowDigit_of_lt (s := t) hk (by omega) m

/-- Settles O7: the position selects FAST.DIGIT or FAST.LAST, whose next states are written out once. -/
theorem fastDigitRows : Obligations.FastDigitRows := by
  intro s b rest hc hi hst hno m t ovl'
  have hother := isStart_eq_false_iff.2 hno
  refine ⟨fun i h3 hk => ⟨?_, execFastDigit_at (s := t) hk m⟩, fun hk => ⟨?_, execFastLast_eq t m⟩⟩
  · exact step_decoderByte hc hi hst rfl (decodeFrameByte_fast_digit (by omega) hother)
  · exact step_decoderByte hc hi hst hk (decodeFrameByte_fast_last hother)
end

section
/-! The measurement of a slow frame (spec/41_value_assembly.md R146): what TRAIL.RATE hands over, and its fields. -/

namespace Sys2Proof.Machine

/-- TRAIL.RATE: the whole last-known status is committed, the frame ends, and its measurement is handed over (R115). -/
theorem exec_trailRate_eq (rate : Logical) (s : State) :
    exec (.trailRate rate) s =
      .next { s with lkFclo := some s.fclo, lkFchi := some s.fchi, lkSpecial := some (specialField s.sp1 s.sp2),
                     lkRate := some rate, st := .awaitStart, k := 0,
                     out := .measurement (slowMeasurement rate s) } := rfl

/-- The fields of a slow frame's measurement from the registers: unit and position are always the corrected ones, since
both nibbles of the function code are the frame's own (R146). -/
theorem slowMeasurement_eq (rate : Logical) (s : State) :
    slowMeasurement rate s =
      { mode := .slow, sign := s.sgn, digits := s.dig.toList, dpRaw := s.dp,
        decimalPosition := (correct s.cfg (s.fchi ++ s.fclo) s.dp).2, functionCode := some (s.fchi ++ s.fclo),
        unit := some (correct s.cfg (s.fchi ++ s.fclo) s.dp).1, statusFlags := some (s.sp1 ++ s.sp2),
        overload := s.ovl, rateHint := some rate,
        text := formatValue s.dig.toList (correct s.cfg (s.fchi ++ s.fclo) s.dp).2 s.sgn s.ovl } := rfl

end Sys2Proof.Machine

open Sys2Proof Sys2Proof.Machine

/-- Settles O27: the measurement TRAIL.RATE hands over is that of the slow frame in the registers, whose fields are
written out once. -/
theorem slowMeasurementFields : Obligations.SlowMeasurementFields := by
  intro s rate
  refine ⟨_, slowMeasurement rate s, exec_trailRate_eq rate s, rfl, ?_⟩
  rw [slowMeasurement_eq]
  exact ⟨rfl, rfl, rfl, rfl, rfl, rfl, rfl, rfl, rfl, rfl, rfl⟩
end

section
/-! The command codec's answers (spec/42_command_codec.md R170, R171, R174, R176): the two checksum formulas as one
remainder, the place of each bit pair in an expanded frame, and the bytes of a command frame. -/

namespace Sys2Proof.Machine

/-- Starting from `a` and subtracting each byte leaves `a` minus their sum. -/
theorem foldl_sub_toNat (l : List Logical) (a : Int) :
    l.foldl (fun acc b => acc - (b.toNat : Int)) a = a - ((l.map BitVec.toNat).sum : Int) := by
  induction l generalizing a with
  | nil => simp
  | cons b l ih =>
    rw [List.foldl_cons, ih, List.map_cons, List.sum_cons]
    omega

theorem byteSum_eq_sum (l : List Logical) : byteSum l = (l.map BitVec.toNat).sum := by
  rw [byteSum, List.sum_eq_foldl, List.foldl_map]

/-- CS_SUB is minus the sum, modulo 64 (R170). -/
theorem toNat_checksumSubtract (l : List Logical) :
    ((checksumSubtract l).toNat : Int) = (-((l.map BitVec.toNat).sum : Int)) % 64 := by
  rw [checksumSubtract, foldl_sub_toNat, BitVec.toNat_ofInt]
  omega

/-- CS_ADD is minus the sum, modulo 64 (R171): 64 is a multiple of the modulus, and the remainder is one already. -/
theorem toNat_checksumAddUp (l : List Logical) :
    ((checksumAddUp l).toNat : Int) = (-((l.map BitVec.toNat).sum : Int)) % 64 := by
  rw [checksumAddUp, byteSum_eq_sum, BitVec.toNat_ofInt]
  omega

/-- The two checksum formulas agree on every list (R173). -/
theorem checksumSubtract_eq_checksumAddUp (l : List Logical) : checksumSubtract l = checksumAddUp l := by
  apply BitVec.eq_of_toNat_eq
  exact_mod_cast (toNat_checksumSubtract l).trans (toNat_checksumAddUp l).symm

/-- Pair k of logical byte j is at physical index 3j + k (R176). -/
theorem getElem_expandFrame_pair (order : NibbleOrder) (l : Vector Logical 14) (j : Fin 14) (k : Fin 3) :
    (expandFrame order l)[3 * j.val + k.val] = pairByte order (bitPair l[j.val] k.val) := by
  have hdiv : (3 * j.val + k.val) / 3 = j.val := by omega
  have hmod : (3 * j.val + k.val) % 3 = k.val := by omega
  simp only [expandFrame, Vector.getElem_ofFn, hdiv, hmod]

/-- An admitted ENCODE is the one write and Sent (R174). -/
theorem execEncode_of_admitted {cmd : Nat} {params : List Nat} (h : encodeRefusal cmd params = none) (s : State) :
    execEncode cmd params s =
      .next ((s.chanWrite (expandFrame s.cfg.nibbleOrder (commandFrame s.cfg cmd params))).emit .sent) := by
  rcases execEncode_cases cmd params s with ⟨r, hr, -⟩ | ⟨-, he⟩
  · simp [h] at hr
  · exact he

section
variable (cfg : Config) (cmd : Nat) (params : List Nat)

/-- A slot with a parameter below 64 holds its value. -/
theorem toNat_paramSlot_of_lt {params : List Nat} {i : Nat} (hi : i < params.length) (hv : params[i] < 64) :
    (paramSlot cfg params i).toNat = params[i] := by
  simpa [paramSlot, hi] using hv

/-- A slot without a parameter holds FILL. -/
theorem paramSlot_of_length_le {params : List Nat} {i : Nat} (hi : params.length ≤ i) :
    paramSlot cfg params i = cfg.fill := by
  simp [paramSlot, hi]

/-- The first thirteen bytes of a command frame are its payload. -/
theorem commandFrame_take_thirteen :
    (commandFrame cfg cmd params).toList.take 13 = (commandPayload cfg cmd params).toList := by
  simp [commandFrame, Vector.toList_push]

/-- Bytes 4 to 12 of a command frame are its parameter slots. -/
theorem commandFrame_getElem_param {i : Nat} (h : i < 9) :
    (commandFrame cfg cmd params)[4 + i] = paramSlot cfg params i := by
  interval_cases i <;> rfl

/-- The last byte of a command frame is the checksum of the thirteen before it. -/
theorem commandFrame_getElem_last :
    (commandFrame cfg cmd params)[13] =
      checksumOf cfg.checksumRule ((commandFrame cfg cmd params).toList.take 13) := by
  rw [commandFrame_take_thirteen]
  exact Vector.getElem_push_eq

end

end Sys2Proof.Machine

open Sys2Proof Sys2Proof.Machine

/-- Settles O12: the frame written is the command frame, whose fourteen bytes are those of R174. -/
theorem encodeWritesFrame : Obligations.EncodeWritesFrame := by
  intro s cmd params hcmd hlen hval
  refine ⟨commandFrame s.cfg cmd params, execEncode_of_admitted (encodeRefusal_eq_none_iff.2 ⟨hlen, hcmd, hval⟩) s,
    rfl, rfl, rfl, Nat.mod_eq_of_lt hcmd, fun i h => ?_, commandFrame_getElem_last s.cfg cmd params⟩
  rw [commandFrame_getElem_param s.cfg cmd params h]
  split
  case isTrue hi => exact toNat_paramSlot_of_lt s.cfg hi (hval _ (List.getElem_mem hi))
  case isFalse hi => exact paramSlot_of_length_le s.cfg (Nat.le_of_not_lt hi)

/-- Settles O14: EXPAND answers the expanded frame, whose bytes are the bit pairs in order. -/
theorem expandPairsInOrder : Obligations.ExpandPairsInOrder :=
  fun s l => ⟨expandFrame s.cfg.nibbleOrder l, rfl, getElem_expandFrame_pair s.cfg.nibbleOrder l⟩

/-- Settles O18: the checksum is CS_SUB's remainder, and CS_ADD's formula agrees with it. -/
theorem checksumRowsNegateSum : Obligations.ChecksumRowsNegateSum := by
  intro s l
  refine ⟨checksumSubtract l.toList, toNat_checksumSubtract l.toList, rfl, ?_⟩
  rw [checksumSubtract_eq_checksumAddUp]
  rfl
end


section
/-! Decode and encode (spec/30_encoding.md, spec/40_frame_decoder.md R102, spec/42_command_codec.md R181, R182). The
inputs that the decoder accepts are of four kinds; whatever it reads is well formed and belongs where it was read, and
an operation that is well formed and belongs to a position is read there from its encoding. -/

namespace Sys2Proof

open Machine

/-- The consumer whose event runs the operation; `none` for the codec and value functions (R34, R65). -/
def Instr.consumer : Instr → Option Owner
  | .awaitDev _ | .awaitFast _ _ | .awaitSkip _ | .statusFclo _ | .statusSp1 _ | .statusSp2 _ | .statusRange _ _
  | .lookSettingDev _ | .lookSettingFast _ _ | .lookDigit _ | .slowDigit _ | .slowResyncDev _ | .slowResyncFast _ _
  | .trailFchi _ | .trailRate _ | .fastDigit _ | .fastLast _ | .fastResyncDev _ | .fastResyncFast _ _ | .decTimeout
  | .decAbort => some .decoder
  | .respByte _ | .respLast _ | .respTimeout | .respAbort => some .response
  | .encode _ _ | .contract _ | .checksumSub _ | .checksumAdd _ | .expand _ | .pair00 | .pair01 | .pair10 | .pair11
  | .unitCorrect _ _ | .format _ _ _ _ => none

/-- A timeout or an abort of either consumer. -/
def Instr.endsOperation (i : Instr) : Prop := i = .decTimeout ∨ i = .decAbort ∨ i = .respTimeout ∨ i = .respAbort

section
variable {codes : List Logical} {p : Position} {i : Instr}

/-- Where the decoder reads an operation from: a byte of one of the consumers, a timeout or abort in its one encoding,
or a request, whose owner has no part in it. -/
theorem decode_cases {x : Input} (h : decode codes p x = .ok i) :
    (∃ b, x = decoderByte b ∧ decodeFrameByte codes p.st p.k (maskByte b) = .ok i) ∨
      (∃ b, x = responseByte b ∧ decodeResponseByte p.rcnt (maskByte b) = .ok i) ∨
      (i.endsOperation ∧ x = encode i) ∨
      (i.consumer = none ∧ x.event = (encode i).event ∧ i.wellFormed codes = true) := by
  obtain ⟨o, e⟩ := x
  cases e with
  | byte b =>
    cases o with
    | decoder => exact .inl ⟨b, rfl, h⟩
    | response => exact .inr (.inl ⟨b, rfl, h⟩)
  | timeout => cases o <;> (cases h; exact .inr (.inr (.inl ⟨by simp [Instr.endsOperation], rfl⟩)))
  | abort => cases o <;> (cases h; exact .inr (.inr (.inl ⟨by simp [Instr.endsOperation], rfl⟩)))
  | pair q =>
    cases h
    rcases decodePair_cases q with ⟨rfl, hq⟩ | ⟨rfl, hq⟩ | ⟨rfl, hq⟩ | ⟨rfl, hq⟩ <;>
      exact .inr (.inr (.inr (by rw [hq]; exact ⟨rfl, rfl, rfl⟩)))
  | format d dp sgn ovl =>
    simp only [decode] at h
    split at h
    · cases h; exact .inr (.inr (.inr ⟨rfl, rfl, ‹_›⟩))
    · cases h
  | encode | contract | checksumSub | checksumAdd | expand | unitCorrect =>
    cases h; exact .inr (.inr (.inr ⟨rfl, rfl, rfl⟩))

/-- A byte for the frame decoder is read as a well-formed row of the decoder at its own position (R102). -/
theorem decodeFrameByte_row {m : Logical} (h : decodeFrameByte codes p.st p.k m = .ok i) :
    i.consumer = some .decoder ∧ i.wellFormed codes = true ∧ i.readAt p = true := by
  rcases decodeFrameByte_cases h with
      ⟨hst, hk, ⟨hm, rfl⟩ | ⟨-, rfl⟩ | ⟨hm, rfl⟩⟩ | ⟨hst, ⟨hk, rfl⟩ | ⟨hk, rfl⟩ | ⟨hk, rfl⟩ | ⟨hk, rfl⟩⟩
    | ⟨hst, hk, ⟨hm, rfl⟩ | ⟨-, rfl⟩ | ⟨hm, rfl⟩⟩ | ⟨hst, h1, h5, ⟨hm, rfl⟩ | ⟨-, rfl⟩ | ⟨hm, rfl⟩⟩
    | ⟨hst, ⟨hk, rfl⟩ | ⟨hk, rfl⟩⟩ | ⟨hst, h4, ⟨hm, rfl⟩ | ⟨-, rfl⟩ | ⟨hm, h3, rfl⟩ | ⟨hm, hk, rfl⟩⟩ <;>
    simp_all [Instr.consumer, Instr.wellFormed, Instr.readAt]

/-- A byte for the receiver is read as a row of the receiver at its own count (R181, R182). -/
theorem decodeResponseByte_row {m : Logical} (h : decodeResponseByte p.rcnt m = .ok i) :
    i.consumer = some .response ∧ i.wellFormed codes = true ∧ i.readAt p = true := by
  rcases decodeResponseByte_cases h with ⟨hr, rfl⟩ | ⟨hr, rfl⟩
  · exact ⟨rfl, rfl, decide_eq_true hr⟩
  · exact ⟨rfl, rfl, decide_eq_true hr⟩

/-- A request is read at every position. -/
theorem readAt_of_consumer_none (h : i.consumer = none) : i.readAt p = true := by
  cases i <;> simp [Instr.consumer] at h <;> rfl

/-- A timeout or an abort is read at every position. -/
theorem row_of_endsOperation (h : i.endsOperation) : i.wellFormed codes = true ∧ i.readAt p = true := by
  rcases h with rfl | rfl | rfl | rfl <;> exact ⟨rfl, rfl⟩

/-- A timeout or an abort is an operation of the consumer that its event names. -/
theorem consumer_of_endsOperation (h : i.endsOperation) : i.consumer = some (encode i).owner := by
  rcases h with rfl | rfl | rfl | rfl <;> rfl

/-- What the decoder reads is well formed and belongs where it was read. -/
theorem decode_row {x : Input} (h : decode codes p x = .ok i) : i.wellFormed codes = true ∧ i.readAt p = true := by
  rcases decode_cases h with ⟨b, -, hb⟩ | ⟨b, -, hb⟩ | ⟨he, -⟩ | ⟨hn, -, hw⟩
  · exact (decodeFrameByte_row hb).2
  · exact (decodeResponseByte_row hb).2
  · exact row_of_endsOperation he
  · exact ⟨hw, readAt_of_consumer_none hn⟩

end

section
variable (codes : List Logical) (p : Position)

theorem decode_decoder_wireByte (m : Logical) :
    decode codes p (decoderByte (wireByte m)) = decodeFrameByte codes p.st p.k m := by
  rw [decode_decoderByte, wireByte, maskByte_setWidth_logical]

theorem decode_response_wireByte (m : Logical) :
    decode codes p (responseByte (wireByte m)) = decodeResponseByte p.rcnt m := by
  rw [decode_responseByte, wireByte, maskByte_setWidth_logical]

theorem decode_decoder_nibbleByte (n : Nibble) :
    decode codes p (decoderByte (nibbleByte n)) = decodeFrameByte codes p.st p.k (maskByte (n.setWidth 8)) := rfl

end

/-- Under admitted device codes a fast candidate is a fast byte and no device code (R70, R77). -/
theorem isDev_fastCandidate {codes : List Logical} (hc : ∀ c ∈ codes, c.toNat < 16) (sgn : Bool) (dp : BitVec 3) :
    isDev codes (fastCandidate sgn dp) = false := by
  cases hd : isDev codes (fastCandidate sgn dp) with
  | false => rfl
  | true => simpa [isFast_fastCandidate] using not_fast_of_dev hc hd

/-- An operation that is well formed and belongs to a position is read there from its encoding. -/
theorem decode_encode {codes : List Logical} {p : Position} {i : Instr} (hc : ∀ c ∈ codes, c.toNat < 16)
    (hw : i.wellFormed codes = true) (hr : i.readAt p = true) : decode codes p (encode i) = .ok i := by
  have hd := isDev_fastCandidate hc
  have hf := isFast_fastCandidate
  cases i <;> simp only [Instr.readAt, decide_eq_true_eq] at hr <;>
    simp only [Instr.wellFormed, Bool.not_eq_true'] at hw <;>
    simp only [encode, decode_decoder_wireByte, decode_response_wireByte, decode_decoder_nibbleByte]
  case awaitDev m => rw [hr.1, hr.2, decodeFrameByte_await_dev hw]
  case awaitFast sgn dp =>
    rw [hr.1, hr.2, decodeFrameByte_await_fast (hd sgn dp) (hf sgn dp), signField_fastCandidate,
      dpField_fastCandidate]
  case awaitSkip m => rw [hr.1, hr.2, decodeFrameByte_await_other hw]
  case statusFclo n => rw [hr.1, hr.2, decodeFrameByte_status_1, lowNibble_maskByte_setWidth]
  case statusSp1 n => rw [hr.1, hr.2, decodeFrameByte_status_2, lowNibble_maskByte_setWidth]
  case statusSp2 n => rw [hr.1, hr.2, decodeFrameByte_status_3, lowNibble_maskByte_setWidth]
  case statusRange sgn dp =>
    rw [hr.1, hr.2, decodeFrameByte_status_4, signField_rangeNibble, dpField_rangeNibble]
  case lookSettingDev m => rw [hr.1, hr.2, decodeFrameByte_look_dev hw]
  case lookSettingFast sgn dp =>
    rw [hr.1, hr.2, decodeFrameByte_look_fast (hd sgn dp) (hf sgn dp), signField_fastCandidate,
      dpField_fastCandidate]
  case lookDigit d => rw [hr.1, hr.2, decodeFrameByte_look_other hw]
  case slowDigit d => rw [hr.1, decodeFrameByte_slow_other hr.2.1 hr.2.2 hw]
  case slowResyncDev m => rw [hr.1, decodeFrameByte_slow_dev hr.2.1 hr.2.2 hw]
  case slowResyncFast sgn dp =>
    rw [hr.1, decodeFrameByte_slow_fast hr.2.1 hr.2.2 (hd sgn dp) (hf sgn dp), signField_fastCandidate,
      dpField_fastCandidate]
  case trailFchi n => rw [hr.1, hr.2, decodeFrameByte_trail_0, lowNibble_maskByte_setWidth]
  case trailRate r => rw [hr.1, hr.2, decodeFrameByte_trail_1]
  case fastDigit d => rw [hr.1, decodeFrameByte_fast_digit hr.2 hw]
  case fastLast d => rw [hr.1, hr.2, decodeFrameByte_fast_last hw]
  case fastResyncDev m => rw [hr.1, decodeFrameByte_fast_dev hr.2 hw]
  case fastResyncFast sgn dp =>
    rw [hr.1, decodeFrameByte_fast_fast hr.2 (hd sgn dp) (hf sgn dp), signField_fastCandidate,
      dpField_fastCandidate]
  case respByte m => rw [decodeResponseByte_early hr]
  case respLast m => rw [hr, decodeResponseByte_last]
  case format d dp sgn ovl => exact if_pos hw
  all_goals rfl

end Sys2Proof

open Sys2Proof Sys2Proof.Machine

/-- Settles O29: each row's own byte, read at the row's position, has the row's class and fields. -/
theorem decodeOfEncode : Obligations.DecodeOfEncode := fun _ _ _ hc hw hr => decode_encode hc hw hr

/-- Settles O30: what is read has its row's condition and position, so its encoding is read there again. -/
theorem decodeReadsWhatRowsSay : Obligations.DecodeReadsWhatRowsSay := by
  intro codes p x i hc h
  obtain ⟨hw, hr⟩ := decode_row h
  exact ⟨hw, hr, decode_encode hc hw hr⟩

/-- Settles O34: seven words, each evaluated. -/
theorem wordsDecodeAsListed : Obligations.WordsDecodeAsListed := by
  unfold Obligations.WordsDecodeAsListed
  decide
end

section
/-! The invariant of the block (spec/10_state.md R21 to R33). Each shared operation keeps it under the condition of the
rows that use it; each operation then keeps it where the decoder reads it, and so does every step. -/

namespace Sys2Proof.Machine

theorem legalPosition_iff {p : Position} :
    legalPosition p = true ↔ legalDecoder p.st p.k = true ∧ p.rcnt.toNat ≤ 13 := by simp [legalPosition]

/-- A slow digit leads to the trailing fields or to the next digit, and changes only the position. -/
theorem afterSlowDigit_eq_goTo (k : BitVec 3) (s : State) :
    afterSlowDigit k s = s.goTo (if k = 5 then .trailingFields else s.st) (if k = 5 then 0 else k + 1) := by
  unfold afterSlowDigit
  split <;> rfl

/-- With digit j in place, the first j + 1 digits of the buffer are the first j and that digit. -/
theorem take_succ_set {n : Nat} (v : Vector Logical n) (j : Nat) (hj : j < n) (d : Logical) :
    (v.set j d hj).toList.take (j + 1) = v.toList.take j ++ [d] := by
  have hlen : j < (v.toList.set j d).length := by simpa using hj
  rw [Vector.toList_set, List.take_add_one, List.getElem?_eq_getElem hlen, List.take_set_of_le le_rfl]
  simp

theorem anyOverload_append (l : List Logical) (d : Logical) :
    anyOverload (l ++ [d]) = overloadAfter (anyOverload l) d := by simp [anyOverload, overloadAfter]

section
variable {s : State}

theorem State.Inv.legalDecoder (hs : s.Inv) : legalDecoder s.st s.k = true := (legalPosition_iff.1 hs.position).1

theorem State.Inv.rcnt_le (hs : s.Inv) : s.rcnt.toNat ≤ 13 := (legalPosition_iff.1 hs.position).2

/-- In a state that holds no digit of a frame, the digits' two conditions come down to a clear `ovl`. -/
theorem State.Inv.of_capturedCount_zero (hcount : capturedCount s = 0) (hpos : Machine.legalDecoder s.st s.k = true)
    (hrcnt : s.rcnt.toNat ≤ 13) (hovl : inDigits s.st = true → s.ovl = false)
    (hdev : onDevicePath s.st = true → isDev s.cfg.deviceCodes s.dev = true)
    (hrng : s.st = .digitsSlow ∨ s.st = .trailingFields → s.rng = rangeNibble s.sgn s.dp) (hlk : lastKnownOk s) :
    s.Inv where
  position := legalPosition_iff.2 ⟨hpos, hrcnt⟩
  overload h := by simpa [capturedDigits, hcount, anyOverload] using hovl h
  digits := by simp [capturedDigits, hcount]
  device := hdev
  range := hrng
  lastKnown := hlk

/-- At a frame start only the receiver's count and the last-known registers have a condition. -/
theorem State.Inv.of_awaitStart (hst : s.st = .awaitStart) (hk : s.k = 0) (hrcnt : s.rcnt.toNat ≤ 13)
    (hlk : lastKnownOk s) : s.Inv := by
  apply State.Inv.of_capturedCount_zero <;>
    simp [capturedCount, Machine.legalDecoder, inDigits, onDevicePath, hst, hk, hrcnt, hlk]

theorem State.Inv.emit (hs : s.Inv) (o : Output) : (s.emit o).Inv :=
  ⟨hs.position, hs.overload, hs.digits, hs.device, hs.range, hs.lastKnown⟩

theorem State.Inv.chanWrite (hs : s.Inv) (p : Vector Byte 42) : (s.chanWrite p).Inv :=
  ⟨hs.position, hs.overload, hs.digits, hs.device, hs.range, hs.lastKnown⟩

theorem State.Inv.consume (hs : s.Inv) (rest : List Input) : ({ s with inputs := rest } : State).Inv :=
  ⟨hs.position, hs.overload, hs.digits, hs.device, hs.range, hs.lastKnown⟩

/-- The receiver's registers are in no condition but that of its count. -/
theorem State.Inv.setReceiver (hs : s.Inv) (rbuf : Vector Logical 14) {rcnt : BitVec 4} (h : rcnt.toNat ≤ 13) :
    ({ s with rbuf := rbuf, rcnt := rcnt } : State).Inv :=
  ⟨legalPosition_iff.2 ⟨hs.legalDecoder, h⟩, hs.overload, hs.digits, hs.device, hs.range, hs.lastKnown⟩

theorem State.Inv.endOperation (hs : s.Inv) (c : Owner) (o : Output) : (s.endOperation c o).Inv := by
  cases c with
  | decoder => exact .of_awaitStart rfl rfl hs.rcnt_le hs.lastKnown
  | response => exact (hs.setReceiver s.rbuf (rcnt := 0) (Nat.zero_le 13)).emit o

theorem State.Inv.beginDevice (hs : s.Inv) {m : Logical} (hm : isDev s.cfg.deviceCodes m = true) :
    (s.beginDevice m).Inv :=
  .of_capturedCount_zero rfl rfl hs.rcnt_le nofun (fun _ => hm) nofun hs.lastKnown

theorem State.Inv.beginFast (hs : s.Inv) (sgn : Bool) (dp : BitVec 3) : (s.beginFast sgn dp).Inv :=
  .of_capturedCount_zero rfl rfl hs.rcnt_le (fun _ => rfl) nofun nofun hs.lastKnown

/-- A setting block commits the low nibble and the special field together. -/
theorem State.Inv.commitSetting (hs : s.Inv) : s.commitSetting.Inv :=
  ⟨hs.position, hs.overload, hs.digits, hs.device, hs.range, rfl, hs.lastKnown.2.1, fun _ => rfl⟩

/-- A status byte before the fourth leads to the next one. -/
theorem State.Inv.statusByte (hs : s.Inv) (hst : s.st = .statusBytes) (fclo sp1 sp2 : Nibble) {k : BitVec 3}
    (h1 : 1 ≤ k.toNat) (h4 : k.toNat ≤ 4) : ({ s with fclo := fclo, sp1 := sp1, sp2 := sp2, k := k } : State).Inv := by
  have hdev : isDev s.cfg.deviceCodes s.dev = true := hs.device (by simp [hst, onDevicePath])
  apply State.Inv.of_capturedCount_zero <;>
    simp [capturedCount, Machine.legalDecoder, inDigits, hst, h1, h4, hs.rcnt_le, hdev]
  exact hs.lastKnown

theorem State.Inv.captureRange (hs : s.Inv) (hst : s.st = .statusBytes) (sgn : Bool) (dp : BitVec 3) :
    (s.captureRange sgn dp).Inv :=
  .of_capturedCount_zero rfl rfl hs.rcnt_le (fun _ => rfl) (fun _ => hs.device (by simp [hst, onDevicePath]))
    (fun _ => rfl) hs.lastKnown

theorem State.Inv.trailFchi (hs : s.Inv) (hst : s.st = .trailingFields) (fchi : Nibble) :
    ({ s with fchi := fchi, k := 1 } : State).Inv where
  position := legalPosition_iff.2 ⟨by simp [State.position, hst, Machine.legalDecoder], hs.rcnt_le⟩
  overload := by simpa [capturedDigits, capturedCount, hst] using hs.overload
  digits := by simpa [capturedDigits, capturedCount, hst] using hs.digits
  device := hs.device
  range := hs.range
  lastKnown := hs.lastKnown

theorem capturedDigits_of_inDigits {j : Nat} (hst : s.st = .digitsSlow ∨ s.st = .digitsFast) (hk : s.k.toNat = j) :
    capturedDigits s = s.dig.toList.take j := by
  rcases hst with hst | hst <;> simp [capturedDigits, capturedCount, hst, hk]

/-- Digit j captured, no start byte, where the next position counts j + 1 digits of the same kind of frame. -/
theorem State.Inv.captureDigit (hs : s.Inv) {j : Fin 6} (hst : s.st = .digitsSlow ∨ s.st = .digitsFast)
    (hk : s.k.toNat = j.val) {d : Logical} (hd : isStart s.cfg.deviceCodes d = false) {st : Phase} {k : BitVec 3}
    (hpath : st = s.st ∨ s.st = .digitsSlow ∧ st = .trailingFields) (hpos : Machine.legalDecoder st k = true)
    (hcount : capturedCount (s.goTo st k) = j.val + 1) : ((s.captureDigit j d).goTo st k).Inv := by
  have hold : capturedDigits s = s.dig.toList.take j.val := capturedDigits_of_inDigits hst hk
  have hnew : capturedDigits ((s.captureDigit j d).goTo st k) = capturedDigits s ++ [d] := by
    rw [hold, ← take_succ_set s.dig j.val j.isLt d, ← hcount]
    rfl
  have hin : inDigits s.st = true := by rcases hst with h | h <;> rw [h] <;> rfl
  refine ⟨legalPosition_iff.2 ⟨hpos, hs.rcnt_le⟩, fun _ => ?_, fun e he => ?_, fun h => hs.device ?_,
    fun h => hs.range ?_, hs.lastKnown⟩
  · rw [hnew, anyOverload_append, ← hs.overload hin]
    rfl
  · rw [hnew, List.mem_append, List.mem_singleton] at he
    rcases he with he | rfl
    · exact hs.digits e he
    · exact hd
  · rcases hpath with rfl | ⟨h', -⟩
    · exact h
    · rw [h']; rfl
  · rcases hpath with rfl | ⟨h', -⟩
    · exact h
    · exact .inl h'

/-- SLOW.DIGIT: after digits 1 to 4 the next digit, after digit 5 the trailing fields. -/
theorem execSlowDigit_keeps_inv {t : State} {d : Logical} (hs : s.Inv) (hst : s.st = .digitsSlow)
    (hd : isStart s.cfg.deviceCodes d = false) (h : execSlowDigit d s = .next t) : t.Inv := by
  obtain ⟨j, hk, rfl⟩ := withDigitRegister_eq_next h
  rw [afterSlowDigit_eq_goTo]
  refine State.Inv.emit ?_ _
  by_cases h5 : s.k = 5
  · have hj : j.val = 5 := by rw [← hk, h5]; rfl
    rw [if_pos h5, if_pos h5]
    exact hs.captureDigit (.inl hst) hk hd (.inr ⟨hst, rfl⟩) rfl (by rw [hj]; rfl)
  · have hne : s.k.toNat ≠ 5 := fun h => h5 (BitVec.eq_of_toNat_eq h)
    have hk1 : (s.k + 1).toNat = j.val + 1 := by rw [BitVec.toNat_add]; simp; omega
    rw [if_neg h5, if_neg h5]
    refine hs.captureDigit (.inl hst) hk hd (.inl rfl) ?_ ?_
    · simp only [State.captureDigit_st, hst, Machine.legalDecoder, hk1, decide_eq_true_eq]
      omega
    · simpa [capturedCount, hst] using hk1

/-- FAST.DIGIT: after digits 0 to 3 the next digit. -/
theorem execFastDigit_keeps_inv {t : State} {d : Logical} (hs : s.Inv) (hst : s.st = .digitsFast)
    (h3 : s.k.toNat ≤ 3) (hd : isStart s.cfg.deviceCodes d = false) (h : execFastDigit d s = .next t) : t.Inv := by
  obtain ⟨j, hk, rfl⟩ := withDigitRegister_eq_next h
  have hk1 : (s.k + 1).toNat = j.val + 1 := by rw [BitVec.toNat_add]; simp; omega
  refine State.Inv.emit (hs.captureDigit (st := s.st) (k := s.k + 1) (.inr hst) hk hd (.inl rfl) ?_ ?_) _
  · simp only [hst, Machine.legalDecoder, hk1, decide_eq_true_eq]
    omega
  · simpa [capturedCount, hst] using hk1

/-- RESP.BYTE: after bytes 0 to 12 the count is at most 13. -/
theorem execRespByte_keeps_inv {t : State} {m : Logical} (hs : s.Inv) (hr : s.rcnt.toNat ≤ 12)
    (h : execRespByte m s = .next t) : t.Inv := by
  obtain ⟨j, -, rfl⟩ := withResponseRegister_eq_next h
  have hr1 : (s.rcnt + 1).toNat ≤ 13 := by rw [BitVec.toNat_add]; simp; omega
  exact (hs.setReceiver _ hr1).emit _

/-- An operation keeps the invariant where the decoder reads it: its row's condition holds of its operands, and its
row names the position. -/
theorem exec_keeps_inv {i : Instr} {t : State} (hs : s.Inv) (hw : i.wellFormed s.cfg.deviceCodes = true)
    (hr : i.readAt s.position = true) (h : exec i s = .next t) : t.Inv := by
  cases i <;> simp only [Instr.readAt, decide_eq_true_eq] at hr <;>
    simp only [Instr.wellFormed, Bool.not_eq_true'] at hw
  case awaitDev m | slowResyncDev m | fastResyncDev m => cases h; exact (hs.beginDevice hw).emit _
  case awaitFast sgn dp | slowResyncFast sgn dp | fastResyncFast sgn dp =>
    cases h; exact (hs.beginFast sgn dp).emit _
  case statusFclo n => cases h; exact (hs.statusByte hr.1 n s.sp1 s.sp2 (k := 2) (by decide) (by decide)).emit _
  case statusSp1 n => cases h; exact (hs.statusByte hr.1 s.fclo n s.sp2 (k := 3) (by decide) (by decide)).emit _
  case statusSp2 n => cases h; exact (hs.statusByte hr.1 s.fclo s.sp1 n (k := 4) (by decide) (by decide)).emit _
  case statusRange sgn dp => cases h; exact (hs.captureRange hr.1 sgn dp).emit _
  case lookSettingDev m => cases h; exact (hs.commitSetting.emit _).beginDevice hw
  case lookSettingFast sgn dp => cases h; exact (hs.commitSetting.emit _).beginFast sgn dp
  case lookDigit d =>
    cases h
    have hst : s.st = .digitsSlow := hr.1
    have hk : s.k.toNat = 0 := by rw [show s.k = 0 from hr.2]; rfl
    exact (hs.captureDigit (j := 0) (st := s.st) (k := 1) (.inl hst) hk hw (.inl rfl) (by rw [hst]; rfl)
      (by simp [capturedCount, hst])).emit _
  case slowDigit d => exact execSlowDigit_keeps_inv hs hr.1 hw h
  case trailFchi n => cases h; exact (hs.trailFchi hr.1 n).emit _
  case trailRate rate => cases h; exact .of_awaitStart rfl rfl hs.rcnt_le ⟨rfl, rfl, fun _ => rfl⟩
  case fastDigit d => exact execFastDigit_keeps_inv hs hr.1 hr.2 hw h
  case fastLast d => cases h; exact .of_awaitStart rfl rfl hs.rcnt_le hs.lastKnown
  case decTimeout | decAbort | respLast | respTimeout | respAbort => cases h; exact hs.endOperation _ _
  case respByte m => exact execRespByte_keeps_inv hs hr h
  case encode cmd params =>
    rcases execEncode_cases cmd params s with ⟨r, -, he⟩ | ⟨-, he⟩ <;> cases he.symm.trans h
    · exact hs.emit _
    · exact (hs.chanWrite _).emit _
  case contract p =>
    rcases execContract_cases p s with ⟨r, -, he⟩ | ⟨-, he⟩ <;> (cases he.symm.trans h; exact hs.emit _)
  all_goals cases h; exact hs.emit _

/-- A step waits or runs an operation that belongs where it was read. -/
theorem step_keeps_inv {t : State} (hs : s.Inv) (h : step s = .next t) : t.Inv := by
  obtain ⟨-, ⟨-, rfl⟩ | ⟨x, rest, i, -, hd, he⟩⟩ := step_next_cases h
  · exact hs
  · obtain ⟨hw, hr⟩ := decode_row hd
    exact exec_keeps_inv (hs.consume rest) hw hr he

end

/-- Right after reset the block is at a frame start, with no response byte and nothing last known. -/
theorem reset_inv : State.reset.Inv := .of_awaitStart rfl rfl (Nat.zero_le 13) ⟨rfl, rfl, nofun⟩

end Sys2Proof.Machine

open Sys2Proof Sys2Proof.Machine

/-- Settles O37: the decoder reads an operation only where its row stands, and there the operation keeps the
invariant. -/
theorem stepKeepsBlockInvariant : Obligations.StepKeepsBlockInvariant := fun _ _ hs h => step_keeps_inv hs h

/-- Settles O38: reset is a frame start, and the default configuration is admitted. -/
theorem resetSatisfiesBlockInvariant : Obligations.ResetSatisfiesBlockInvariant := ⟨reset_inv, rfl⟩

/-- Settles O47: the values are those the reset state is written with. -/
theorem resetRegisterValues : Obligations.ResetRegisterValues := ⟨rfl, rfl, rfl, rfl, rfl, rfl, rfl⟩
end

section
/-! What a step answers and what it leaves as it was (spec/20_memory.md R65, R67; spec/40_frame_decoder.md R121, R123;
spec/60_exceptions.md R215, R218, R222, R226). Each fact is proved once per operation and carried to the step by what
the step's event decodes to. -/

namespace Sys2Proof

open Machine

/-- A codec or value request: an event that is no byte, timeout or abort (R34). -/
def Event.isRequest : Event → Bool
  | .byte _ | .timeout | .abort => false
  | .encode _ _ | .contract _ | .checksumSub _ | .checksumAdd _ | .expand _ | .pair _ | .unitCorrect _ _
  | .format _ _ _ _ => true

theorem isRequest_encode (i : Instr) : (encode i).event.isRequest = i.consumer.isNone := by cases i <;> rfl

section
variable {codes : List Logical} {p : Position} {i : Instr}

/-- A request is read as an operation of no consumer, any other event as one of its owner (R65). -/
theorem decode_consumer {x : Input} (h : decode codes p x = .ok i) :
    i.consumer = if x.event.isRequest then none else some x.owner := by
  rcases decode_cases h with ⟨b, rfl, hb⟩ | ⟨b, rfl, hb⟩ | ⟨he, rfl⟩ | ⟨hn, hx, -⟩
  · exact (decodeFrameByte_row hb).1
  · exact (decodeResponseByte_row (codes := codes) hb).1
  · have hsome := consumer_of_endsOperation he
    simp [isRequest_encode, hsome]
  · simp [hx, isRequest_encode, hn]

/-- At a legal position the frame decoder has a row for every byte (R102). -/
theorem decodeFrameByte_total {st : Phase} {k : BitVec 3} (h : legalDecoder st k = true) (m : Logical) :
    ∃ i, decodeFrameByte codes st k m = .ok i := by
  cases st <;> simp only [legalDecoder, decide_eq_true_eq] at h
  case awaitStart =>
    subst h
    rcases byteClass_cases codes m with ⟨hc, -⟩ | ⟨hc, -⟩ | ⟨hc, -⟩ <;> simp [decodeFrameByte, hc]
  case statusBytes =>
    obtain rfl | rfl | rfl | rfl : k = 1 ∨ k = 2 ∨ k = 3 ∨ k = 4 := by revert k; decide
    · exact ⟨_, decodeFrameByte_status_1⟩
    · exact ⟨_, decodeFrameByte_status_2⟩
    · exact ⟨_, decodeFrameByte_status_3⟩
    · exact ⟨_, decodeFrameByte_status_4⟩
  case digitsSlow =>
    by_cases hk : k = 0#3 <;>
      rcases byteClass_cases codes m with ⟨hc, -⟩ | ⟨hc, -⟩ | ⟨hc, -⟩ <;> simp [decodeFrameByte, hc, hk, h]
  case digitsFast =>
    by_cases hk : k = 4#3 <;>
      rcases byteClass_cases codes m with ⟨hc, -⟩ | ⟨hc, -⟩ | ⟨hc, -⟩ <;> simp [decodeFrameByte, hc, hk, h]
  case trailingFields =>
    obtain rfl | rfl : k = 0 ∨ k = 1 := by revert k; decide
    · exact ⟨_, decodeFrameByte_trail_0⟩
    · exact ⟨_, decodeFrameByte_trail_1⟩

/-- Outside the table of R21 the frame decoder rejects every byte, by its position. -/
theorem decodeFrameByte_illegal {st : Phase} {k : BitVec 3} (h : legalDecoder st k = false) (m : Logical) :
    decodeFrameByte codes st k m = .error (.noDecoderRow st k) := by
  cases st <;> simp only [legalDecoder, decide_eq_false_iff_not] at h
  case awaitStart => exact if_neg h
  case statusBytes =>
    obtain ⟨h1, h2, h3, h4⟩ : k ≠ 1#3 ∧ k ≠ 2#3 ∧ k ≠ 3#3 ∧ k ≠ 4#3 := by revert k; decide
    simp [decodeFrameByte, h1, h2, h3, h4]
  case digitsSlow =>
    have h0 : k ≠ 0#3 := by rintro rfl; exact h (by decide)
    simp [decodeFrameByte, h0, h]
  case digitsFast => simp [decodeFrameByte, h]
  case trailingFields =>
    obtain ⟨h0, h1⟩ : k ≠ 0#3 ∧ k ≠ 1#3 := by revert k; decide
    simp [decodeFrameByte, h0, h1]

theorem decodeResponseByte_total {rcnt : BitVec 4} (h : rcnt.toNat ≤ 13) (m : Logical) :
    ∃ i, decodeResponseByte rcnt m = .ok i := by
  by_cases h12 : rcnt.toNat ≤ 12
  · exact ⟨_, decodeResponseByte_early h12⟩
  · obtain rfl : rcnt = 13 := BitVec.eq_of_toNat_eq (by simp; omega)
    exact ⟨_, decodeResponseByte_last⟩

/-- Past the last response byte the receiver rejects every byte, by its count. -/
theorem decodeResponseByte_illegal {rcnt : BitVec 4} (h : 13 < rcnt.toNat) (m : Logical) :
    decodeResponseByte rcnt m = .error (.noResponseRow rcnt) := by
  have h12 : ¬ rcnt.toNat ≤ 12 := by omega
  have h13 : rcnt ≠ 13#4 := by rintro rfl; simp at h
  simp [decodeResponseByte, h12, h13]

/-- At a legal position every event is read, a FORMAT request if it has five or six digits (R121). -/
theorem decode_total (hp : legalPosition p = true) (x : Input)
    (hf : ∀ d dp sgn ovl, x.event = .format d dp sgn ovl → d.length = 5 ∨ d.length = 6) :
    ∃ i, decode codes p x = .ok i := by
  obtain ⟨hst, hr⟩ := legalPosition_iff.1 hp
  obtain ⟨o, e⟩ := x
  cases e with
  | byte b =>
    cases o with
    | decoder => exact decodeFrameByte_total hst _
    | response => exact decodeResponseByte_total hr _
  | timeout => cases o <;> exact ⟨_, rfl⟩
  | abort => cases o <;> exact ⟨_, rfl⟩
  | format d dp sgn ovl => exact ⟨_, if_pos (decide_eq_true (hf d dp sgn ovl rfl))⟩
  | encode | contract | checksumSub | checksumAdd | expand | pair | unitCorrect => exact ⟨_, rfl⟩

/-- FAST.LAST carries the byte it was read from. -/
theorem eq_of_decodeFrameByte_fastLast {m d : Logical}
    (h : decodeFrameByte codes .digitsFast 4 m = .ok (.fastLast d)) : m = d := by
  rcases byteClass_cases codes m with ⟨hc, -⟩ | ⟨hc, -⟩ | ⟨hc, -⟩ <;> simp [decodeFrameByte, hc] at h
  exact h

/-- FAST.LAST is read from a byte for the frame decoder, its digit the masked byte (R51, R117). -/
theorem decode_fastLast {x : Input} {d : Logical} (h : decode codes p x = .ok (.fastLast d)) :
    ∃ b, x = decoderByte b ∧ d = b.extractLsb' 0 6 := by
  obtain ⟨hst, hk⟩ : p.st = .digitsFast ∧ p.k = 4 := of_decide_eq_true (decode_row h).2
  rcases decode_cases h with ⟨b, hx, hb⟩ | ⟨b, -, hb⟩ | ⟨he, -⟩ | ⟨hn, -⟩
  · rw [hst, hk] at hb
    exact ⟨b, hx, (eq_of_decodeFrameByte_fastLast hb).symm.trans (maskByte_eq_extract b)⟩
  · cases (decodeResponseByte_row (codes := codes) hb).1
  · rcases he with he | he | he | he <;> cases he
  · cases hn

end

end Sys2Proof

namespace Sys2Proof.Machine

/-- Everything an operation can answer: a next state, or the fault of a digit row or of RESP.BYTE whose register does
not exist. -/
theorem exec_cases (i : Instr) (s : State) :
    (∃ t, exec i s = .next t) ∨
      (6 ≤ s.k.toNat ∧ (∃ d, i = .slowDigit d ∨ i = .fastDigit d) ∧ exec i s = .fault (.noDigitRegister s.k)) ∨
      (14 ≤ s.rcnt.toNat ∧ (∃ m, i = .respByte m) ∧ exec i s = .fault (.noResponseRegister s.rcnt)) := by
  cases i with
  | slowDigit d =>
    rcases withDigitRegister_cases s fun j => (afterSlowDigit s.k (s.captureDigit j d)).emit .idle with
      ⟨hk, he⟩ | ⟨hk, he⟩
    · exact .inl ⟨_, he⟩
    · exact .inr (.inl ⟨hk, ⟨d, .inl rfl⟩, he⟩)
  | fastDigit d =>
    rcases withDigitRegister_cases s fun j => State.emit { s.captureDigit j d with k := s.k + 1 } .idle with
      ⟨hk, he⟩ | ⟨hk, he⟩
    · exact .inl ⟨_, he⟩
    · exact .inr (.inl ⟨hk, ⟨d, .inr rfl⟩, he⟩)
  | respByte m =>
    rcases withResponseRegister_cases s fun j => (s.storeResponse j m).emit .idle with ⟨hr, he⟩ | ⟨hr, he⟩
    · exact .inl ⟨_, he⟩
    · exact .inr (.inr ⟨hr, ⟨m, rfl⟩, he⟩)
  | encode cmd params => rcases execEncode_cases cmd params s with ⟨_, _, he⟩ | ⟨_, he⟩ <;> exact .inl ⟨_, he⟩
  | contract p => rcases execContract_cases p s with ⟨_, _, he⟩ | ⟨_, he⟩ <;> exact .inl ⟨_, he⟩
  | awaitDev | awaitFast | awaitSkip | statusFclo | statusSp1 | statusSp2 | statusRange | lookSettingDev
  | lookSettingFast | lookDigit | slowResyncDev | slowResyncFast | trailFchi | trailRate | fastLast | fastResyncDev
  | fastResyncFast | decTimeout | decAbort | respLast | respTimeout | respAbort | checksumSub | checksumAdd | expand
  | pair00 | pair01 | pair10 | pair11 | unitCorrect | format => exact .inl ⟨_, rfl⟩

/-- Where its row stands, an operation has a next state: the register it asks for exists. -/
theorem exec_total {i : Instr} {s : State} (hr : i.readAt s.position = true) : ∃ t, exec i s = .next t := by
  rcases exec_cases i s with hn | ⟨hk, ⟨d, rfl | rfl⟩, -⟩ | ⟨hc, ⟨m, rfl⟩, -⟩
  · exact hn
  · obtain ⟨-, -, h5⟩ : s.st = .digitsSlow ∧ 1 ≤ s.k.toNat ∧ s.k.toNat ≤ 5 := of_decide_eq_true hr
    omega
  · obtain ⟨-, h3⟩ : s.st = .digitsFast ∧ s.k.toNat ≤ 3 := of_decide_eq_true hr
    omega
  · have h12 : s.rcnt.toNat ≤ 12 := of_decide_eq_true hr
    omega

/-- What an operation leaves as it was: the configuration, the waiting events, and the registers of every consumer but
its own (R34, R65, R67). -/
theorem exec_frame {i : Instr} {s t : State} (h : exec i s = .next t) :
    t.cfg = s.cfg ∧ t.inputs = s.inputs ∧ (i.consumer ≠ some .response → sameReceiver s t) ∧
      (i.consumer ≠ some .decoder → sameDecoder s t) := by
  cases i with
  | slowDigit d =>
    obtain ⟨j, -, rfl⟩ := withDigitRegister_eq_next (show execSlowDigit d s = .next t from h)
    rw [afterSlowDigit_eq_goTo]
    exact ⟨rfl, rfl, fun _ => ⟨rfl, rfl⟩, fun hn => absurd rfl hn⟩
  | fastDigit d =>
    obtain ⟨j, -, rfl⟩ := withDigitRegister_eq_next (show execFastDigit d s = .next t from h)
    exact ⟨rfl, rfl, fun _ => ⟨rfl, rfl⟩, fun hn => absurd rfl hn⟩
  | respByte m =>
    obtain ⟨j, -, rfl⟩ := withResponseRegister_eq_next (show execRespByte m s = .next t from h)
    refine ⟨rfl, rfl, fun hn => absurd rfl hn, fun _ => ?_⟩
    exact ⟨rfl, rfl, rfl, rfl, rfl, rfl, rfl, rfl, rfl, rfl, rfl, rfl, rfl, rfl, rfl, rfl⟩
  | respLast | respTimeout | respAbort =>
    cases h
    refine ⟨rfl, rfl, fun hn => absurd rfl hn, fun _ => ?_⟩
    exact ⟨rfl, rfl, rfl, rfl, rfl, rfl, rfl, rfl, rfl, rfl, rfl, rfl, rfl, rfl, rfl, rfl⟩
  | encode cmd params =>
    rcases execEncode_cases cmd params s with ⟨_, -, he⟩ | ⟨-, he⟩ <;> cases he.symm.trans h <;>
      exact ⟨rfl, rfl, fun _ => ⟨rfl, rfl⟩, fun _ =>
        ⟨rfl, rfl, rfl, rfl, rfl, rfl, rfl, rfl, rfl, rfl, rfl, rfl, rfl, rfl, rfl, rfl⟩⟩
  | contract p =>
    rcases execContract_cases p s with ⟨_, -, he⟩ | ⟨-, he⟩ <;> cases he.symm.trans h <;>
      exact ⟨rfl, rfl, fun _ => ⟨rfl, rfl⟩, fun _ =>
        ⟨rfl, rfl, rfl, rfl, rfl, rfl, rfl, rfl, rfl, rfl, rfl, rfl, rfl, rfl, rfl, rfl⟩⟩
  | checksumSub | checksumAdd | expand | pair00 | pair01 | pair10 | pair11 | unitCorrect | format =>
    cases h
    exact ⟨rfl, rfl, fun _ => ⟨rfl, rfl⟩, fun _ =>
      ⟨rfl, rfl, rfl, rfl, rfl, rfl, rfl, rfl, rfl, rfl, rfl, rfl, rfl, rfl, rfl, rfl⟩⟩
  | awaitDev | awaitFast | awaitSkip | statusFclo | statusSp1 | statusSp2 | statusRange | lookSettingDev
  | lookSettingFast | lookDigit | slowResyncDev | slowResyncFast | trailFchi | trailRate | fastLast | fastResyncDev
  | fastResyncFast | decTimeout | decAbort =>
    cases h
    exact ⟨rfl, rfl, fun _ => ⟨rfl, rfl⟩, fun hn => absurd rfl hn⟩

/-- A measurement, an error or a cancellation (R12, R210). -/
def reports : Output → Bool
  | .measurement _ | .channelTimeout | .aborted | .checksumMismatch => true
  | .idle | .resync | .encodeRefused _ | .invalid _ | .setting _ | .response _ _ | .sent | .contracted _
  | .checksum _ | .expanded _ | .pairByte _ | .corrected _ _ | .formatted _ => false

/-- Such an output comes from TRAIL.RATE or FAST.LAST, with their measurement, or ends an operation of the consumer that
raised it. -/
theorem exec_reports_cases {i : Instr} {s t : State} (h : exec i s = .next t) (ho : reports t.out = true) :
    (∃ rate, i = .trailRate rate ∧ t.out = .measurement (slowMeasurement rate s)) ∨
      (∃ d, i = .fastLast d ∧ t.out = .measurement (fastMeasurement d s)) ∨
      (∃ c, i.consumer = some c ∧ t = s.endOperation c t.out ∧ ∀ m, t.out ≠ .measurement m) := by
  cases i with
  | trailRate rate => cases h; exact .inl ⟨rate, rfl, rfl⟩
  | fastLast d => cases h; exact .inr (.inl ⟨d, rfl, rfl⟩)
  | decTimeout | decAbort => cases h; exact .inr (.inr ⟨.decoder, rfl, rfl, by simp⟩)
  | respTimeout | respAbort => cases h; exact .inr (.inr ⟨.response, rfl, rfl, by simp⟩)
  | respLast m =>
    cases h
    refine .inr (.inr ⟨.response, rfl, rfl, ?_⟩)
    rcases checkAndDispatch_cases s.cfg (responseFrame s m) with ⟨-, he⟩ | ⟨-, he⟩ <;> simp [he]
  | slowDigit d =>
    obtain ⟨j, -, rfl⟩ := withDigitRegister_eq_next (show execSlowDigit d s = .next t from h)
    cases ho
  | fastDigit d =>
    obtain ⟨j, -, rfl⟩ := withDigitRegister_eq_next (show execFastDigit d s = .next t from h)
    cases ho
  | respByte m =>
    obtain ⟨j, -, rfl⟩ := withResponseRegister_eq_next (show execRespByte m s = .next t from h)
    cases ho
  | encode cmd params =>
    rcases execEncode_cases cmd params s with ⟨_, -, he⟩ | ⟨-, he⟩ <;> (cases he.symm.trans h; cases ho)
  | contract p => rcases execContract_cases p s with ⟨_, -, he⟩ | ⟨-, he⟩ <;> (cases he.symm.trans h; cases ho)
  | awaitDev | awaitFast | awaitSkip | statusFclo | statusSp1 | statusSp2 | statusRange | lookSettingDev
  | lookSettingFast | lookDigit | slowResyncDev | slowResyncFast | trailFchi | fastResyncDev | fastResyncFast
  | checksumSub | checksumAdd | expand | pair00 | pair01 | pair10 | pair11 | unitCorrect | format =>
    cases h; cases ho

section
variable {s t : State} {x : Input} {rest : List Input}

/-- With an event waiting, a step that answers next ran the operation the event decodes to. -/
theorem step_event_next (hi : s.inputs = x :: rest) (h : step s = .next t) :
    ∃ i, decode s.cfg.deviceCodes s.position x = .ok i ∧ exec i { s with inputs := rest } = .next t := by
  obtain ⟨-, ⟨hnil, -⟩ | ⟨y, rest', i, hi', hd, he⟩⟩ := step_next_cases h
  · simp [hi] at hnil
  · obtain ⟨rfl, rfl⟩ : x = y ∧ rest = rest' := by simpa using hi.symm.trans hi'
    exact ⟨i, hd, he⟩

theorem step_cfg (h : step s = .next t) : t.cfg = s.cfg := by
  obtain ⟨-, ⟨-, rfl⟩ | ⟨x, rest, i, -, -, he⟩⟩ := step_next_cases h
  · rfl
  · exact (exec_frame he).1

theorem step_event_inputs (hi : s.inputs = x :: rest) (h : step s = .next t) : t.inputs = rest := by
  obtain ⟨i, -, he⟩ := step_event_next hi h
  exact (exec_frame he).2.1

/-- A step on a request, or on an event of the decoder, leaves the receiver (R65). -/
theorem step_sameReceiver (hi : s.inputs = x :: rest) (h : step s = .next t)
    (hx : x.event.isRequest = true ∨ x.owner = .decoder) : sameReceiver s t := by
  obtain ⟨i, hd, he⟩ := step_event_next hi h
  refine (exec_frame he).2.2.1 ?_
  rw [decode_consumer hd]
  rcases hx with hx | hx <;> simp [hx]

/-- A step on a request, or on an event of the receiver, leaves the decoder (R65). -/
theorem step_sameDecoder (hi : s.inputs = x :: rest) (h : step s = .next t)
    (hx : x.event.isRequest = true ∨ x.owner = .response) : sameDecoder s t := by
  obtain ⟨i, hd, he⟩ := step_event_next hi h
  refine (exec_frame he).2.2.2 ?_
  rw [decode_consumer hd]
  rcases hx with hx | hx <;> simp [hx]

/-- A step writes to the sink on a request only (R53). -/
theorem step_sink (hi : s.inputs = x :: rest) (h : step s = .next t) (hx : x.event.isRequest = false) :
    t.sink = s.sink := by
  obtain ⟨i, hd, he⟩ := step_event_next hi h
  rcases exec_sink_cases he with ⟨hkeep, -⟩ | ⟨cmd, params, rfl, -⟩
  · exact hkeep
  · have hcon := decode_consumer hd
    rw [hx] at hcon
    cases hcon

/-- A step that emits a measurement ran TRAIL.RATE at the second trailing byte or FAST.LAST at the fifth fast digit, and
the measurement is that of the frame in the registers. -/
theorem step_measurement_cases {m : Measurement} (hi : s.inputs = x :: rest) (h : step s = .next t)
    (ho : t.out = .measurement m) :
    (s.st = .trailingFields ∧ s.k = 1 ∧ ∃ rate, decode s.cfg.deviceCodes s.position x = .ok (.trailRate rate) ∧
      m = slowMeasurement rate s) ∨
    (s.st = .digitsFast ∧ s.k = 4 ∧ ∃ d, decode s.cfg.deviceCodes s.position x = .ok (.fastLast d) ∧
      m = fastMeasurement d s) := by
  obtain ⟨i, hd, he⟩ := step_event_next hi h
  rcases exec_reports_cases he (by rw [ho]; rfl) with ⟨rate, rfl, hm⟩ | ⟨d, rfl, hm⟩ | ⟨c, -, -, hne⟩
  · obtain ⟨hst, hk⟩ : s.st = .trailingFields ∧ s.k = 1 := of_decide_eq_true (decode_row hd).2
    exact .inl ⟨hst, hk, rate, hd, Output.measurement.inj (ho.symm.trans hm)⟩
  · obtain ⟨hst, hk⟩ : s.st = .digitsFast ∧ s.k = 4 := of_decide_eq_true (decode_row hd).2
    exact .inr ⟨hst, hk, d, hd, Output.measurement.inj (ho.symm.trans hm)⟩
  · exact absurd ho (hne m)

end

theorem anyOverload_iff {l : List Logical} : anyOverload l = true ↔ ∃ d ∈ l, 10 ≤ d.toNat := by
  simp [anyOverload, overloadDigit]

/-- There is no text exactly under overload (R149). -/
theorem formatValue_eq_none_iff {d : List Logical} {dp : Int} {sgn ovl : Bool} :
    formatValue d dp sgn ovl = none ↔ ovl = true := by cases ovl <;> simp [formatValue]

/-- The digits of a slow frame's measurement are those captured. -/
theorem capturedDigits_of_trailingFields {s : State} (hst : s.st = .trailingFields) :
    capturedDigits s = s.dig.toList := by simp [capturedDigits, capturedCount, hst]

/-- Before the fifth digit of a fast frame, four are captured. -/
theorem capturedDigits_of_fastLast {s : State} (hst : s.st = .digitsFast) (hk : s.k = 4) :
    capturedDigits s = s.dig.toList.take 4 := capturedDigits_of_inDigits (.inr hst) (by rw [hk]; rfl)

/-- A device code of 0x10 or more, the first of them, is the reason of the refusal (R222, log 15). -/
theorem exists_deviceCode_refusal {cfg : Config} (h : ¬ ∀ m ∈ cfg.deviceCodes, m.toNat < 16) :
    ∃ m ∈ cfg.deviceCodes, 16 ≤ m.toNat ∧ configRefusal cfg = some (.deviceCode m) := by
  cases hb : badDeviceCode cfg.deviceCodes with
  | none => exact absurd (by simpa [badDeviceCode] using hb) h
  | some m =>
    have hge : 16 ≤ m.toNat := by simpa using List.find?_some hb
    exact ⟨m, List.mem_of_find?_eq_some hb, hge, by simp [configRefusal, hb]⟩

/-- With all device codes below 0x10 the correction table decides (R222). -/
theorem configRefusal_of_small {cfg : Config} (h : ∀ m ∈ cfg.deviceCodes, m.toNat < 16) :
    configRefusal cfg = if correctionTableOk cfg then none else some .correctionTable := by
  have hb : badDeviceCode cfg.deviceCodes = none := by simpa [badDeviceCode] using h
  simp [configRefusal, hb]

/-- The correction table is right: the six named codes are six, each with its kind (R144). -/
theorem correctionTableOk_iff {cfg : Config} :
    correctionTableOk cfg = true ↔
      [cfg.named.i1, cfg.named.i2, cfg.named.c, cfg.named.dB, cfg.named.p1, cfg.named.p2].Nodup ∧
        dpCorrection cfg cfg.named.i1 = .add 1 ∧ dpCorrection cfg cfg.named.i2 = .add 1 ∧
        dpCorrection cfg cfg.named.c = .add 1 ∧ dpCorrection cfg cfg.named.dB = .const 3 ∧
        dpCorrection cfg cfg.named.p1 = .add (-2) ∧ dpCorrection cfg cfg.named.p2 = .add (-2) := by
  simp only [correctionTableOk, Bool.and_eq_true, decide_eq_true_eq, and_assoc]

/-- Under an admitted configuration no step is refused as a configuration. -/
theorem step_ne_configRefused {s : State} (hc : s.configOk) (e : ConfigError) :
    step s ≠ .refused (.configRefused e) := by
  cases hi : s.inputs with
  | nil => simp [step_empty hc hi]
  | cons x rest =>
    cases hd : decode s.cfg.deviceCodes s.position x with
    | error e' => simp [step_rejected hc hi hd]
    | ok i =>
      rw [step_event hc hi hd]
      rcases exec_cases i { s with inputs := rest } with ⟨t, he⟩ | ⟨-, -, he⟩ | ⟨-, -, he⟩ <;> simp [he]

/-- An event of the call is an event of the decoder and no request. -/
theorem callEvent_owner {x : Input} (h : callEvent x = true) : x.owner = .decoder ∧ x.event.isRequest = false := by
  rcases callEvent_iff.1 h with ⟨b, rfl⟩ | rfl | rfl <;> exact ⟨rfl, rfl⟩

/-- What next_measurement() leaves when it returns: an output that ends the call, the events it took gone, and the sink
and the receiver as they were. -/
theorem nextMeasurement_returns {n : Nat} {s t : State} {o : Output} (h : nextMeasurement n s = some (o, t)) :
    t.out = o ∧ endsCall o = true ∧
      (∃ taken, taken ≠ [] ∧ s.inputs = taken ++ t.inputs ∧ ∀ x ∈ taken, callEvent x = true) ∧
      t.sink = s.sink ∧ sameReceiver s t := by
  induction n generalizing s with
  | zero => cases h
  | succ n ih =>
    obtain ⟨x, rest, u, hi, hx, hs, hret⟩ := nextMeasurement_succ_cases h
    obtain ⟨hown, hreq⟩ := callEvent_owner hx
    have hu : u.inputs = rest := step_event_inputs hi hs
    have hsink : u.sink = s.sink := step_sink hi hs hreq
    have hrecv : sameReceiver s u := step_sameReceiver hi hs (.inr hown)
    rcases hret with ⟨hend, rfl, rfl⟩ | ⟨-, hrec⟩
    · exact ⟨rfl, hend, ⟨[x], by simp, by simp [hi, hu], by simpa using hx⟩, hsink, hrecv⟩
    · obtain ⟨hout, hend, ⟨taken, -, htaken, hcall⟩, hsink', hbuf, hcnt⟩ := ih hrec
      refine ⟨hout, hend, ⟨x :: taken, by simp, by simp [hi, ← hu, htaken], by simpa [hx] using hcall⟩,
        hsink'.trans hsink, hbuf.trans hrecv.1, hcnt.trans hrecv.2⟩

end Sys2Proof.Machine

open Sys2Proof Sys2Proof.Machine

/-- Settles O31: at a legal position every event is read, and where its row stands an operation has a next state. -/
theorem blockIsTotal : Obligations.BlockIsTotal := by
  intro s x rest hc hs hi hf
  obtain ⟨i, hd⟩ := decode_total (codes := s.cfg.deviceCodes) hs.position x hf
  obtain ⟨t, ht⟩ := exec_total (i := i) (s := { s with inputs := rest }) (decode_row hd).2
  exact ⟨t, (step_event hc hi hd).trans ht, (exec_frame ht).2.1⟩

/-- Settles O32: an admitted configuration and a decoded event leave the operation alone to run. -/
theorem stepRunsDecodedOperation : Obligations.StepRunsDecodedOperation := fun _ _ _ _ hc hi hd => step_event hc hi hd

/-- Settles O33: with no event there is nothing to read. -/
theorem stepWaitsWithoutEvent : Obligations.StepWaitsWithoutEvent := fun _ hc hi => step_empty hc hi

/-- Settles O35: the device codes are looked at first, then the correction table; an operation refuses nothing. -/
theorem configRefusedExactly : Obligations.ConfigRefusedExactly := by
  intro s n smallCodes kindsRight different
  have htable (hsmall : smallCodes) (hbad : ¬ (different ∧ kindsRight)) :
      step s = .refused (.configRefused .correctionTable) := by
    refine step_of_refusedConfig ?_
    rw [configRefusal_of_small hsmall, if_neg (correctionTableOk_iff.not.2 hbad)]
  refine ⟨fun hbig => ?_, fun hsmall hk => htable hsmall fun h => hk h.2,
    fun hsmall hd => htable hsmall fun h => hd h.1, fun hsmall hk hd => ?_⟩
  · obtain ⟨m, hm, hge, hr⟩ := exists_deviceCode_refusal hbig
    exact ⟨m, hm, hge, step_of_refusedConfig hr⟩
  · have hok : s.configOk := by
      rw [State.configOk, configRefusal_of_small hsmall, if_pos (correctionTableOk_iff.2 ⟨hd, hk⟩)]
    exact ⟨hok, step_ne_configRefused hok⟩

/-- Settles O36: the decoder rejects what has no row, and a register that does not exist is a fault. -/
theorem rejectionsByName : Obligations.RejectionsByName := by
  intro s rest hc
  refine ⟨fun b hl hi => step_rejected hc hi (decodeFrameByte_illegal hl _),
    fun b hr hi => step_rejected hc hi (decodeResponseByte_illegal hr _), fun d dp sgn ovl h5 h6 hi => ?_,
    fun d hk => ?_, fun m hr => ?_⟩
  · exact step_rejected hc hi (if_neg (by simp [formatCount, h5, h6]))
  · exact ⟨dif_neg (by omega), dif_neg (by omega)⟩
  · exact dif_neg (by omega)

/-- Settles O39: no operation writes the configuration. -/
theorem stepKeepsConfiguration : Obligations.StepKeepsConfiguration := fun _ _ h => step_cfg h

/-- Settles O40: an operation writes no register but its own consumer's, and its consumer is its event's owner. -/
theorem consumersDoNotInterfere : Obligations.ConsumersDoNotInterfere := by
  intro s t x rest hi h
  refine ⟨fun ho => step_sameReceiver hi h (.inr ho), fun ho => step_sameDecoder hi h (.inr ho),
    fun hb ht ha => ?_⟩
  have hreq : x.event.isRequest = true := by cases he : x.event <;> simp_all [Event.isRequest]
  exact ⟨step_sameDecoder hi h (.inl hreq), step_sameReceiver hi h (.inl hreq)⟩

/-- Settles O42: two rows emit a measurement, each where it stands and with its own digits. -/
theorem noPartialMeasurement : Obligations.NoPartialMeasurement := by
  intro s t x rest m hi h ho
  rcases step_measurement_cases hi h ho with ⟨hst, hk, rate, hd, rfl⟩ | ⟨hst, hk, d, hd, rfl⟩
  · exact .inl ⟨hst, hk, rfl, by simp [slowMeasurement, assembleSlow], rate, hd⟩
  · exact .inr ⟨hst, hk, rfl, by simp [fastMeasurement, assembleFast], d, hd⟩

/-- Settles O43: the invariant ties the flag to the captured digits, and FAST.LAST takes in the fifth digit's. -/
theorem overloadGivesNoValue : Obligations.OverloadGivesNoValue := by
  intro s t x rest m hs hi h ho
  rcases step_measurement_cases hi h ho with ⟨hst, hk, rate, hd, rfl⟩ | ⟨hst, hk, d, hd, rfl⟩
  · have hdig := capturedDigits_of_trailingFields hst
    have hovl : s.ovl = anyOverload s.dig.toList := hdig ▸ hs.overload (by rw [hst]; rfl)
    refine ⟨?_, formatValue_eq_none_iff.symm, fun _ => hdig.symm, nofun⟩
    exact (iff_of_eq (congrArg (· = true) hovl)).trans anyOverload_iff
  · have hdig := capturedDigits_of_fastLast hst hk
    have hovl : overloadAfter s.ovl d = anyOverload (s.dig.toList.take 4 ++ [d]) := by
      rw [anyOverload_append, ← hdig, hs.overload (by rw [hst]; rfl)]
    obtain ⟨b, hx, hb⟩ := decode_fastLast hd
    refine ⟨?_, formatValue_eq_none_iff.symm, nofun, fun _ => ⟨b, hx, by rw [hdig, ← hb]; rfl⟩⟩
    exact (iff_of_eq (congrArg (· = true) hovl)).trans anyOverload_iff

/-- Settles O45: an error or a cancellation ends the operation of its consumer, which is the event's owner. -/
theorem errorsArePrecise : Obligations.ErrorsArePrecise := by
  intro s t x rest hi h hout
  obtain ⟨i, hd, he⟩ := step_event_next hi h
  have hrep : reports t.out = true ∧ ∀ m, t.out ≠ .measurement m := by
    simp only [List.mem_cons, List.not_mem_nil, or_false] at hout
    rcases hout with ho | ho | ho <;> rw [ho] <;> exact ⟨rfl, nofun⟩
  rcases exec_reports_cases he hrep.1 with ⟨_, -, hm⟩ | ⟨_, -, hm⟩ | ⟨c, hc, ht, -⟩
  · exact absurd hm (hrep.2 _)
  · exact absurd hm (hrep.2 _)
  · have hcon := decode_consumer hd
    rw [hc] at hcon
    have hown : x.owner = c := by
      split at hcon
      · cases hcon
      · exact (Option.some.inj hcon).symm
    cases c with
    | decoder => exact .inl ⟨hown, ht⟩
    | response => exact .inr ⟨hown, ht⟩

/-- Settles O51: by induction on the steps of the call for what it returns, and by its unfolding at one step for the
events it takes. -/
theorem nextMeasurementReturns : Obligations.NextMeasurementReturns := by
  unfold Obligations.NextMeasurementReturns
  intro ofCall
  refine ⟨fun n s t o h => ?_, fun n s t x rest hi hx h => ⟨fun ho => ?_, fun ho => ?_⟩⟩
  · obtain ⟨hout, hend, ⟨taken, hne, htaken, hcall⟩, hsink, hrecv⟩ := nextMeasurement_returns h
    exact ⟨hout, endsCall_iff.1 hend, ⟨taken, hne, htaken, fun x hx => callEvent_iff.1 (hcall x hx)⟩, hsink, hrecv⟩
  · rw [nextMeasurement_of_next hi (callEvent_iff.2 hx) h, if_pos (endsCall_iff.2 ho)]
  · have hgo : endsCall t.out = false := by rcases ho with ho | ho | ⟨r, ho⟩ <;> rw [ho] <;> rfl
    rw [nextMeasurement_of_next hi (callEvent_iff.2 hx) h, hgo]
    rfl
end

section
/-! The remaining rows (spec/40_frame_decoder.md R106 to R120, spec/42_command_codec.md R181 to R185): the status bytes,
the start bytes in the digits, the trailing fields, the timeouts and aborts, and the response bytes. -/

namespace Sys2Proof.Machine

/-- Under an admitted configuration a byte for the receiver runs the row that the count selects. -/
theorem step_responseByte {s : State} {b : Byte} {rest : List Input} {i : Instr} (hc : s.configOk)
    (hi : s.inputs = responseByte b :: rest) (hd : decodeResponseByte s.rcnt (b.extractLsb' 0 6) = .ok i) :
    step s = exec i { s with inputs := rest } := by
  refine step_event hc hi ?_
  rw [decode_responseByte, maskByte_eq_extract, State.position_rcnt, hd]

/-- The response RESP.LAST completes is the buffer's thirteen bytes and the last one (R182). -/
theorem responseFrame_take_thirteen (s : State) (m : Logical) :
    (responseFrame s m).toList.take 13 = s.rbuf.toList.take 13 := by
  rw [responseFrame, Vector.toList_set, List.take_set_of_le le_rfl]

/-- A response passes when its thirteen bytes have its last as their checksum (R183). -/
theorem responsePasses_responseFrame (s : State) (m : Logical) :
    responsePasses s.cfg (responseFrame s m) = true ↔
      checksumOf s.cfg.checksumRule (s.rbuf.toList.take 13) = m := by
  have hlast : (responseFrame s m)[13] = m := Vector.getElem_set_self _
  rw [responsePasses, responseFrame_take_thirteen, hlast, beq_iff_eq]

/-- Byte 3 of the response, which the dispatch looks at, is the buffer's (R184). -/
theorem responseFrame_getElem_three (s : State) (m : Logical) : (responseFrame s m)[3] = s.rbuf[3] :=
  Vector.getElem_set_ne _ _ (by decide)

/-- RESP.LAST of a response that fails the check (R183). -/
theorem execRespLast_mismatch {s : State} {m : Logical}
    (h : checksumOf s.cfg.checksumRule (s.rbuf.toList.take 13) ≠ m) :
    execRespLast m s = .next { s with rcnt := 0, out := .checksumMismatch } := by
  have hfail := mt (responsePasses_responseFrame s m).1 h
  rw [execRespLast, checkAndDispatch, if_neg hfail]
  rfl

/-- RESP.LAST of a response that passes the check (R184). -/
theorem execRespLast_passes {s : State} {m : Logical}
    (h : checksumOf s.cfg.checksumRule (s.rbuf.toList.take 13) = m) :
    execRespLast m s =
      .next { s with rcnt := 0, out := .response (responseKind s.cfg (responseFrame s m)) (responseFrame s m) } := by
  rw [execRespLast, checkAndDispatch, if_pos ((responsePasses_responseFrame s m).2 h)]
  rfl

end Sys2Proof.Machine

open Sys2Proof Sys2Proof.Machine

/-- Settles O2: the position alone selects the row, and the byte's low bits are its fields. -/
theorem statusByteRows : Obligations.StatusByteRows := by
  intro s b rest hc hi hst m t
  rw [← lowNibble_eq_extract, ← dpField_eq_extract]
  refine ⟨fun hk => ⟨?_, rfl⟩, fun hk => ⟨?_, rfl⟩, fun hk => ⟨?_, rfl⟩, fun hk => ⟨?_, ?_⟩⟩
  · exact step_decoderByte hc hi hst hk decodeFrameByte_status_1
  · exact step_decoderByte hc hi hst hk decodeFrameByte_status_2
  · exact step_decoderByte hc hi hst hk decodeFrameByte_status_3
  · exact step_decoderByte hc hi hst hk decodeFrameByte_status_4
  · rw [← rangeNibble_fields]
    rfl

/-- Settles O3: the class of the start byte selects the row, and both rows end the setting block first. -/
theorem lookaheadEndsSettingBlock : Obligations.LookaheadEndsSettingBlock := by
  intro s b rest hc hi hst hk m t special done
  refine ⟨fun hdev => ⟨?_, rfl⟩, fun hfast => ⟨?_, rfl⟩⟩
  · exact step_decoderByte hc hi hst hk (decodeFrameByte_look_dev (isDev_iff.2 hdev))
  · have hf : isFast m = true := isFast_iff.2 hfast
    rw [← dpField_eq_extract]
    exact step_decoderByte hc hi hst hk (decodeFrameByte_look_fast (not_dev_of_fast hc hf) hf)

/-- Settles O5: the phase and the class of the start byte select one of four rows. -/
theorem resyncRestartsAtStartByte : Obligations.ResyncRestartsAtStartByte := by
  intro s b rest hc hi m t devStart fastStart
  have hnot (hfast : m.extractLsb' 4 2 = 0b01#2) := not_dev_of_fast hc (isFast_iff.2 hfast)
  have hdp : dpField m = m.extractLsb' 0 3 := dpField_eq_extract m
  refine ⟨fun hst h1 h5 => ⟨fun hdev => ⟨?_, rfl⟩, fun hfast => ⟨?_, rfl⟩⟩,
    fun hst h4 => ⟨fun hdev => ⟨?_, rfl⟩, fun hfast => ⟨?_, rfl⟩⟩⟩
  · exact step_decoderByte hc hi hst rfl (decodeFrameByte_slow_dev h1 h5 (isDev_iff.2 hdev))
  · rw [← hdp]
    exact step_decoderByte hc hi hst rfl (decodeFrameByte_slow_fast h1 h5 (hnot hfast) (isFast_iff.2 hfast))
  · exact step_decoderByte hc hi hst rfl (decodeFrameByte_fast_dev h4 (isDev_iff.2 hdev))
  · rw [← hdp]
    exact step_decoderByte hc hi hst rfl (decodeFrameByte_fast_fast h4 (hnot hfast) (isFast_iff.2 hfast))

/-- Settles O6: the position alone selects the row. -/
theorem trailingRows : Obligations.TrailingRows := by
  intro s b rest hc hi hst m t
  rw [← lowNibble_eq_extract]
  refine ⟨fun hk => ⟨?_, rfl⟩, fun hk => ⟨?_, rfl⟩⟩
  · exact step_decoderByte hc hi hst hk decodeFrameByte_trail_0
  · exact step_decoderByte hc hi hst hk decodeFrameByte_trail_1

/-- Settles O8: a timeout and an abort of the decoder are read at every position. -/
theorem decoderTimeoutAndAbort : Obligations.DecoderTimeoutAndAbort :=
  fun _ _ hc => ⟨fun hi => ⟨step_event hc hi rfl, rfl⟩, fun hi => ⟨step_event hc hi rfl, rfl⟩⟩

/-- Settles O9: before the last byte the count names the place in the buffer. -/
theorem responseByteStored : Obligations.ResponseByteStored := by
  intro s b rest hc hi i h12 hr m t
  refine ⟨step_responseByte hc hi (decodeResponseByte_early (by omega)), ?_⟩
  exact withResponseRegister_at (s := t) hr fun j => (t.storeResponse j m).emit .idle

/-- Settles O10: the check decides between the mismatch and the dispatch. -/
theorem responseCheckedThenDispatched : Obligations.ResponseCheckedThenDispatched := by
  intro s b rest hc hi hr m t r
  refine ⟨step_responseByte hc hi (by rw [hr, decodeResponseByte_last]), fun h => execRespLast_mismatch (s := t) h,
    fun h => ⟨fun hl => ?_, fun l hl => ?_⟩⟩ <;>
  · refine (execRespLast_passes (s := t) h).trans ?_
    rw [responseKind, responseFrame_getElem_three, show lookupFirst t.cfg.respLayout t.rbuf[3] = _ from hl]
    rfl

/-- Settles O11: a timeout and an abort of the receiver are read at every count. -/
theorem responseTimeoutAndAbort : Obligations.ResponseTimeoutAndAbort :=
  fun _ _ hc => ⟨fun hi => ⟨step_event hc hi rfl, rfl⟩, fun hi => ⟨step_event hc hi rfl, rfl⟩⟩

/-- Settles O28: FAST.LAST hands over the assembled measurement, and whether both nibbles are known decides its code,
unit and position. -/
theorem fastMeasurementFields : Obligations.FastMeasurementFields := by
  intro s d
  refine ⟨_, _, execFastLast_eq s d, rfl, rfl, rfl, rfl, rfl, rfl, rfl, rfl, fun lo hi hlo hhi => ?_, fun hnone => ?_⟩
  · rw [hlo, hhi]
    exact ⟨rfl, rfl, rfl⟩
  · have hk : knownFunctionCode s.lkFclo s.lkFchi = none := by
      rcases hnone with h | h <;> rw [h]
      · rfl
      · cases s.lkFclo <;> rfl
    rw [hk]
    exact ⟨rfl, rfl, rfl⟩
end

section
/-! The command codec's contracts (spec/42_command_codec.md R170 to R186): contraction and expansion invert each other
on canonical blocks, a checksum makes a frame sum to 0 modulo 64, and one changed byte makes it sum to something else. -/

namespace Sys2Proof.Machine

section
variable {p : Vector Byte 42}

theorem firstBadIndex_eq_none_iff : firstBadIndex p = none ↔ ∀ i : Fin 42, isWireByte p[i] = true := by
  simp [firstBadIndex]

/-- The lowest index of a byte that is not canonical is the one reported (R179). -/
theorem firstBadIndex_eq_some {i : Fin 42} (hi : isWireByte p[i] = false)
    (hlow : ∀ j : Fin 42, j < i → isWireByte p[j] = true) : firstBadIndex p = some i := by
  rw [firstBadIndex, List.find?_eq_some_iff_getElem]
  refine ⟨by simpa using hi, i.val, by simp, by simp, fun j hj => ?_⟩
  simpa using hlow ⟨j, by omega⟩ hj

/-- CONTRACT of a canonical block gives the frame gathered from it (R179). -/
theorem execContract_of_canonical (h : ∀ i : Fin 42, isWireByte p[i] = true) (s : State) :
    execContract p s = .next (s.emit (.contracted (gatherFrame s.cfg.nibbleOrder p))) := by
  have hnone := firstBadIndex_eq_none_iff.2 h
  rcases execContract_cases p s with ⟨i, hi, -⟩ | ⟨-, he⟩
  · simp [hnone] at hi
  · exact he

/-- CONTRACT of a block with a bad byte names the lowest (R179, R224). -/
theorem execContract_of_bad {i : Fin 42} (h : firstBadIndex p = some i) (s : State) :
    execContract p s = .next (s.emit (.invalid i)) := by
  rcases execContract_cases p s with ⟨j, hj, he⟩ | ⟨hnone, -⟩
  · obtain rfl : i = j := Option.some.inj (h.symm.trans hj)
    exact he
  · simp [h] at hnone

end

section
variable (order : NibbleOrder)

/-- Every byte of an expanded frame is canonical (R82). -/
theorem isWireByte_expandFrame (l : Vector Logical 14) (i : Fin 42) :
    isWireByte (expandFrame order l)[i] = true := (isWireByte_iff _).2 (getElem_expandFrame_mem order l i)

/-- Gathering an expanded frame gives it back: each byte is put together from its own three pairs (R180). -/
theorem gatherFrame_expandFrame (l : Vector Logical 14) : gatherFrame order (expandFrame order l) = l := by
  ext1 j hj
  have hpair (k : Fin 3) := getElem_expandFrame_pair order l ⟨j, hj⟩ k
  have h0 : (expandFrame order l)[3 * j] = _ := hpair 0
  have h1 : (expandFrame order l)[3 * j + 1] = _ := hpair 1
  have h2 : (expandFrame order l)[3 * j + 2] = _ := hpair 2
  simp only [gatherFrame, Vector.getElem_ofFn]
  rw [h0, h1, h2, unpairByte_pairByte, unpairByte_pairByte, unpairByte_pairByte]
  exact logicalOfPairs_bitPairs l[j]

/-- The pairs of a byte put together from three are those three (R80). -/
theorem bitPair_logicalOfPairs : ∀ q0 q1 q2 : BitVec 2, bitPair (logicalOfPairs q0 q1 q2) 0 = q0 ∧
    bitPair (logicalOfPairs q0 q1 q2) 1 = q1 ∧ bitPair (logicalOfPairs q0 q1 q2) 2 = q2 := by decide

/-- Pair k of logical byte j of a gathered frame is that of physical byte 3j + k (R179). -/
theorem bitPair_gatherFrame (p : Vector Byte 42) (j : Fin 14) (k : Fin 3) :
    bitPair (gatherFrame order p)[j.val] k.val = unpairByte order p[3 * j.val + k.val] := by
  simp only [gatherFrame, Vector.getElem_ofFn]
  obtain ⟨h0, h1, h2⟩ := bitPair_logicalOfPairs (unpairByte order p[3 * j.val]) (unpairByte order p[3 * j.val + 1])
    (unpairByte order p[3 * j.val + 2])
  match k with
  | 0 => exact h0
  | 1 => exact h1
  | 2 => exact h2

/-- Expanding what a canonical block gathers to gives the block back (R179). -/
theorem expandFrame_gatherFrame {p : Vector Byte 42} (h : ∀ i : Fin 42, isWireByte p[i] = true) :
    expandFrame order (gatherFrame order p) = p := by
  ext1 i hi
  obtain ⟨j, k, rfl⟩ : ∃ (j : Fin 14) (k : Fin 3), i = 3 * j.val + k.val :=
    ⟨⟨i / 3, by omega⟩, ⟨i % 3, by omega⟩, (Nat.div_add_mod i 3).symm⟩
  rw [getElem_expandFrame_pair, bitPair_gatherFrame]
  exact pairByte_unpairByte order _ (h ⟨3 * j.val + k.val, hi⟩)

end

/-- CONTRACT of an expanded frame gives the frame (R180). -/
theorem execContract_expandFrame (s : State) (l : Vector Logical 14) :
    execContract (expandFrame s.cfg.nibbleOrder l) s = .next (s.emit (.contracted l)) := by
  rw [execContract_of_canonical (isWireByte_expandFrame s.cfg.nibbleOrder l), gatherFrame_expandFrame]

/-- Either checksum is minus the sum, modulo 64 (R170, R171). -/
theorem toNat_checksumOf (rule : ChecksumRule) (l : List Logical) :
    ((checksumOf rule l).toNat : Int) = (-((l.map BitVec.toNat).sum : Int)) % 64 := by
  cases rule with
  | sub => exact toNat_checksumSubtract l
  | add => exact toNat_checksumAddUp l

/-- A byte is the checksum of those before it exactly when with it they sum to a multiple of 64 (R173, R183). -/
theorem checksumOf_eq_iff (rule : ChecksumRule) (l : List Logical) (c : Logical) :
    checksumOf rule l = c ↔ ((l ++ [c]).map BitVec.toNat).sum % 64 = 0 := by
  have hcs := toNat_checksumOf rule l
  have hlt : c.toNat < 64 := c.isLt
  rw [← BitVec.toNat_inj, List.map_append, List.sum_append]
  simp only [List.map_cons, List.map_nil, List.sum_cons, List.sum_nil]
  omega

/-- The sum of the fourteen bytes of a frame. -/
def frameSum (r : Vector Logical 14) : Nat := (r.toList.map BitVec.toNat).sum

theorem frameSum_eq_sum (r : Vector Logical 14) : frameSum r = ∑ i : Fin 14, r[i].toNat := by
  rw [frameSum, ← List.sum_ofFn]
  congr 1
  refine List.ext_getElem (by simp) fun i h1 h2 => ?_
  simp only [List.getElem_map, Vector.getElem_toList, List.getElem_ofFn]
  rfl

/-- A response passes the check exactly when its fourteen bytes sum to a multiple of 64 (R183). -/
theorem responsePasses_iff (cfg : Config) (r : Vector Logical 14) :
    responsePasses cfg r = true ↔ frameSum r % 64 = 0 := by
  have hsplit : r.toList.take 13 ++ [r[13]] = r.toList := by
    rw [← Vector.getElem_toList (by simp), ← List.take_succ_eq_append_getElem]
    exact List.take_of_length_le (by simp)
  rw [responsePasses, beq_iff_eq, checksumOf_eq_iff, hsplit, frameSum]

/-- Two frames that differ in one byte have sums that differ modulo 64, since a byte is below 64 (R186). -/
theorem frameSum_mod_ne {r r' : Vector Logical 14} {i : Fin 14} (hi : r'[i] ≠ r[i])
    (hj : ∀ j : Fin 14, j ≠ i → r'[j] = r[j]) : frameSum r' % 64 ≠ frameSum r % 64 := by
  have hrest : ∑ j ∈ Finset.univ.erase i, r'[j].toNat = ∑ j ∈ Finset.univ.erase i, r[j].toNat :=
    Finset.sum_congr rfl fun j h => by rw [hj j (Finset.ne_of_mem_erase h)]
  have hne : r'[i].toNat ≠ r[i].toNat := fun h => hi (BitVec.eq_of_toNat_eq h)
  have h1 : r'[i].toNat < 64 := r'[i].isLt
  have h2 : r[i].toNat < 64 := r[i].isLt
  rw [frameSum_eq_sum, frameSum_eq_sum, ← Finset.add_sum_erase _ _ (Finset.mem_univ i),
    ← Finset.add_sum_erase _ (fun j : Fin 14 => r[j].toNat) (Finset.mem_univ i), hrest]
  omega

/-- The fourteen bytes of a command frame sum to a multiple of 64 (R173). -/
theorem frameSum_commandFrame (cfg : Config) (cmd : Nat) (params : List Nat) :
    frameSum (commandFrame cfg cmd params) % 64 = 0 := by
  rw [frameSum, commandFrame, Vector.toList_push]
  exact (checksumOf_eq_iff cfg.checksumRule _ _).1 rfl

end Sys2Proof.Machine

open Sys2Proof Sys2Proof.Machine

/-- Settles O20: CONTRACT gathers what expansion spread, and what ENCODE writes is the expansion of the frame it
built. -/
theorem encodeContractRoundTrip : Obligations.EncodeContractRoundTrip := by
  refine ⟨execContract_expandFrame, fun s t cmd params hcmd hlen hval h => ?_⟩
  obtain ⟨l, he, h0, h1, h2, h3, hparam, hlast⟩ := encodeWritesFrame s cmd params hcmd hlen hval
  have ht := Host.Outcome.next.inj (he.symm.trans h)
  have hsink : t.sink = s.sink ++ [expandFrame t.cfg.nibbleOrder l] := by rw [← ht]
  exact ⟨expandFrame t.cfg.nibbleOrder l, l, hsink, execContract_expandFrame t l, h0, h1, h2, h3, hparam, hlast.symm⟩

/-- Settles O13: of the two reasons the count is looked at first. -/
theorem encodeRefusesOutOfRange : Obligations.EncodeRefusesOutOfRange := by
  intro s cmd params h
  by_cases h9 : 9 < params.length
  · have hr : encodeRefusal cmd params = some .tooManyParams := if_pos h9
    exact ⟨_, by simp only [exec, execEncode, hr]; rfl, fun hle => absurd h9 (Nat.not_lt.2 hle), fun _ _ => rfl⟩
  · have hlarge : 64 ≤ cmd ∨ ∃ v ∈ params, 64 ≤ v := h.resolve_left h9
    have hr : encodeRefusal cmd params = some .valueTooLarge := by
      rw [encodeRefusal, if_neg h9, if_pos (by simpa using hlarge)]
    refine ⟨_, by simp only [exec, execEncode, hr]; rfl, fun _ => rfl, fun hcmd hval => ?_⟩
    rcases hlarge with hc | ⟨v, hv, h64⟩
    · exact absurd hcmd (Nat.not_lt.2 hc)
    · exact absurd (hval v hv) (Nat.not_lt.2 h64)

/-- Settles O15: the two flags of each pair, placed by the nibble order. -/
theorem pairByteTable : Obligations.PairByteTable := by
  intro s
  have hbyte (q : BitVec 2) (i : Instr)
      (he : exec i s = .next (s.emit (.pairByte (pairByte s.cfg.nibbleOrder q)))) {b : Byte}
      (hb : pairByte s.cfg.nibbleOrder q = b) : exec i s = .next { s with out := .pairByte b } := by
    rw [he, hb]; rfl
  refine ⟨hbyte 0b00 _ rfl ?_, hbyte 0b11 _ rfl ?_, fun ho => ⟨hbyte 0b01 _ rfl ?_, hbyte 0b10 _ rfl ?_⟩,
    fun ho => ⟨hbyte 0b01 _ rfl ?_, hbyte 0b10 _ rfl ?_⟩⟩
  · cases s.cfg.nibbleOrder <;> decide
  · cases s.cfg.nibbleOrder <;> decide
  all_goals rw [ho]; decide

/-- Settles O16: the lowest byte that is not canonical is found first. -/
theorem contractNamesFirstBadByte : Obligations.ContractNamesFirstBadByte := by
  intro s p i hi hlow
  have hbad : isWireByte p[i] = false := by rw [← Bool.not_eq_true, isWireByte_iff]; exact hi
  exact execContract_of_bad (firstBadIndex_eq_some hbad fun j hj => (isWireByte_iff _).2 (hlow j hj)) s

/-- Settles O17: the frame is the one gathered from the block. -/
theorem contractInvertsCanonicalBlock : Obligations.ContractInvertsCanonicalBlock := by
  intro s p h
  have hwire : ∀ j : Fin 42, isWireByte p[j] = true := fun j => (isWireByte_iff _).2 (h j)
  exact ⟨gatherFrame s.cfg.nibbleOrder p, execContract_of_canonical hwire s, expandFrame_gatherFrame _ hwire⟩

/-- Settles O19: both checksums are minus the sum, and a frame ends in its checksum. -/
theorem checksumRulesAgree : Obligations.ChecksumRulesAgree :=
  ⟨checksumSubtract_eq_checksumAddUp, frameSum_commandFrame⟩

/-- Settles O21: passing is summing to a multiple of 64, and one changed byte changes the sum modulo 64. -/
theorem singleByteCorruptionDetected : Obligations.SingleByteCorruptionDetected := by
  intro s s' m m' i hcfg hi hj h
  have hpass : frameSum (responseFrame s m) % 64 = 0 :=
    (responsePasses_iff _ _).1 ((responsePasses_responseFrame s m).2 h)
  have hne : frameSum (responseFrame s' m') % 64 ≠ 0 := hpass ▸ frameSum_mod_ne hi hj
  refine execRespLast_mismatch fun h' => hne ?_
  exact (responsePasses_iff _ _).1 ((responsePasses_responseFrame s' m').2 h')
end

section
/-! Units, corrections and texts (spec/41_value_assembly.md R141 to R155): what the tables give for a function code, and
where the formatter puts the point. -/

namespace Sys2Proof.Machine

theorem tableCode_eq_extract (fc : Byte) : tableCode fc = fc.extractLsb' 0 5 := by
  apply BitVec.eq_of_getLsbD_eq; intro i hi; simp [tableCode, hi]

/-- Below 32 the known code is the table's code 1 (R143). -/
theorem tableCode_eq_one_iff : ∀ fc : Byte, fc.toNat < 32 → (tableCode fc = 0x01#5 ↔ fc = 0x01#8) := by decide

/-- A function code with the number of a table code has that table code. -/
theorem tableCode_of_toNat_eq {fc : Byte} {n : BitVec 5} (h : fc.toNat = n.toNat) : fc.toNat < 32 ∧ tableCode fc = n :=
  ⟨h ▸ n.isLt, BitVec.eq_of_toNat_eq (by rw [tableCode, BitVec.toNat_setWidth, h]; exact Nat.mod_eq_of_lt n.isLt)⟩

section
variable (cfg : Config) {fc : Byte}

/-- The known entry's label is V (R143). -/
theorem labelOf_known : labelOf cfg 0x01#8 = ['V'] := rfl

/-- Another code below 32 has UNIT_LABEL's label, or the fallback label where there is none (R141). -/
theorem labelOf_of_lt (h : fc.toNat < 32) (hne : fc ≠ 0x01#8) :
    labelOf cfg fc = (lookupFirst cfg.unitLabel (tableCode fc)).getD (fallbackLabel cfg fc) := by
  have hcode : tableCode fc ≠ 0x01#5 := mt (tableCode_eq_one_iff fc h).1 hne
  rw [labelOf, if_pos h, unitLabel, if_neg hcode]

theorem labelOf_of_ge (h : 32 ≤ fc.toNat) : labelOf cfg fc = fallbackLabel cfg fc := if_neg (Nat.not_lt.2 h)

/-- The known entry is not corrected (R143). -/
theorem correctionKind_known : correctionKind cfg 0x01#8 = .id := rfl

/-- Another code below 32 has DP_CORRECTION's kind, or Id where there is none (R144). -/
theorem correctionKind_of_lt (h : fc.toNat < 32) (hne : fc ≠ 0x01#8) :
    correctionKind cfg fc = (lookupFirst cfg.correction (tableCode fc)).getD .id := by
  have hcode : tableCode fc ≠ 0x01#5 := mt (tableCode_eq_one_iff fc h).1 hne
  rw [correctionKind, if_pos h, dpCorrection, if_neg hcode]

theorem correctionKind_of_ge (h : 32 ≤ fc.toNat) : correctionKind cfg fc = .id := if_neg (Nat.not_lt.2 h)

/-- A function code with the number of a table code has that code's correction. -/
theorem correctionKind_of_toNat_eq {n : BitVec 5} (h : fc.toNat = n.toNat) :
    correctionKind cfg fc = dpCorrection cfg n := by
  obtain ⟨hlt, hcode⟩ := tableCode_of_toNat_eq h
  rw [correctionKind, if_pos hlt, hcode]

/-- The fallback label is the configuration's, where it lists one (R141). -/
theorem fallbackLabel_of_listed {l : Text} (h : lookupFirst cfg.fallbackLabel fc = some l) :
    fallbackLabel cfg fc = l := by rw [fallbackLabel, h, Option.getD_some]

end

/-- An admitted configuration corrects the six named codes as R144 says. -/
theorem dpCorrection_of_configOk {s : State} (hc : s.configOk) :
    dpCorrection s.cfg s.cfg.named.i1 = .add 1 ∧ dpCorrection s.cfg s.cfg.named.i2 = .add 1 ∧
      dpCorrection s.cfg s.cfg.named.c = .add 1 ∧ dpCorrection s.cfg s.cfg.named.dB = .const 3 ∧
      dpCorrection s.cfg s.cfg.named.p1 = .add (-2) ∧ dpCorrection s.cfg s.cfg.named.p2 = .add (-2) := by
  have hok : correctionTableOk s.cfg = true := by
    rw [State.configOk, configRefusal_of_small (deviceCode_lt_of_configOk hc)] at hc
    simpa using hc
  exact (correctionTableOk_iff.1 hok).2

section
variable {ds : Text} {dp : Int}

/-- A negative position puts the point and its zeros first (R151). -/
theorem placePoint_neg (h : dp < 0) : placePoint ds dp = '.' :: (zeros (-dp).toNat ++ ds) := if_pos h

/-- Position 0 puts the point last (R152). -/
theorem placePoint_zero : placePoint ds 0 = ds ++ ['.'] := rfl

/-- A position from 1 to n counts digits from the right (R153). -/
theorem placePoint_inside (h1 : 1 ≤ dp) (hn : dp ≤ ds.length) :
    placePoint ds dp = ds.take (ds.length - dp.toNat) ++ '.' :: ds.drop (ds.length - dp.toNat) := by
  rw [placePoint, if_neg (by omega), if_neg (by omega), if_pos hn]

/-- A position above n puts the point first and fills up with zeros (R154). -/
theorem placePoint_above (h : (ds.length : Int) < dp) :
    placePoint ds dp = '.' :: (zeros (dp.toNat - ds.length) ++ ds) := by
  rw [placePoint, if_neg (by omega), if_neg (by omega), if_neg (by omega)]

/-- Wherever the point goes, what stands around it is some zeros and then the digits. -/
theorem placePoint_split (ds : Text) (dp : Int) :
    ∃ (before after : Text) (z : Nat), placePoint ds dp = before ++ '.' :: after ∧ before ++ after = zeros z ++ ds := by
  rcases lt_or_ge dp 0 with hneg | hpos
  · exact ⟨[], _, _, placePoint_neg hneg, rfl⟩
  · rcases hpos.eq_or_lt with rfl | h1
    · exact ⟨ds, [], 0, placePoint_zero, by simp [zeros]⟩
    · rcases le_or_gt dp ds.length with hn | hn
      · exact ⟨_, _, 0, placePoint_inside h1 hn, by simp [zeros]⟩
      · exact ⟨[], _, _, placePoint_above hn, rfl⟩

end

theorem formatValue_false (d : List Logical) (dp : Int) (sgn : Bool) :
    formatValue d dp sgn false = some (signText sgn ++ placePoint (d.map chrDigit) dp) := rfl

theorem chrDigit_of_le {x : Logical} (h : x.toNat ≤ 9) : chrDigit x = Char.ofNat (48 + x.toNat) := if_pos h

/-- One of the characters '0' to '9' (R11). -/
def isDecimal (c : Char) : Prop := ∃ n : Nat, n ≤ 9 ∧ c = Char.ofNat (48 + n)

/-- A decimal character is neither the point nor the minus. -/
theorem isDecimal.ne {c : Char} (h : isDecimal c) : c ≠ '.' ∧ c ≠ '-' := by
  obtain ⟨n, hn, rfl⟩ := h
  interval_cases n <;> decide

/-- Zeros before decimal digits are decimal characters. -/
theorem isDecimal_of_mem {d : List Logical} (hd : ∀ x ∈ d, x.toNat ≤ 9) {z : Nat} {c : Char}
    (h : c ∈ zeros z ++ d.map chrDigit) : isDecimal c := by
  rcases List.mem_append.1 h with hz | hx
  · exact ⟨0, by omega, List.eq_of_mem_replicate hz⟩
  · obtain ⟨x, hmem, rfl⟩ := List.mem_map.1 hx
    exact ⟨x.toNat, hd x hmem, chrDigit_of_le (hd x hmem)⟩

/-- The shape of a text made of a sign, and decimal characters with one point among them (R155). -/
theorem text_shape {before after : Text} (sgn : Bool) (h : ∀ c ∈ before ++ after, isDecimal c) :
    let text := signText sgn ++ (before ++ '.' :: after)
    text.count '.' = 1 ∧ (∀ c ∈ text, c = '-' ∨ c = '.' ∨ isDecimal c) ∧ text.tail.count '-' = 0 ∧
      text.filter (fun c => c != '.' && c != '-') = before ++ after := by
  intro text
  have hb (c : Char) (hc : c ∈ before) : isDecimal c := h c (List.mem_append_left _ hc)
  have ha (c : Char) (hc : c ∈ after) : isDecimal c := h c (List.mem_append_right _ hc)
  have hcount : before.count '.' = 0 ∧ after.count '.' = 0 :=
    ⟨List.count_eq_zero.2 fun hm => (hb _ hm).ne.1 rfl, List.count_eq_zero.2 fun hm => (ha _ hm).ne.1 rfl⟩
  have hminus : (before ++ '.' :: after).count '-' = 0 := by
    rw [List.count_eq_zero]
    intro hm
    rcases List.mem_append.1 hm with hm | hm
    · exact (hb _ hm).ne.2 rfl
    · exact (ha _ (List.mem_of_ne_of_mem (by decide) hm)).ne.2 rfl
  have hkeep (l : Text) (hl : ∀ c ∈ l, isDecimal c) : l.filter (fun c => c != '.' && c != '-') = l :=
    List.filter_eq_self.2 fun c hc => by simpa using (hl c hc).ne
  refine ⟨?_, fun c hc => ?_, ?_, ?_⟩
  · cases sgn <;> simp [text, signText, hcount]
  · simp only [text, List.mem_append, List.mem_cons] at hc
    rcases hc with hc | hc | hc | hc
    · cases sgn
      · cases hc
      · exact .inl (List.mem_singleton.1 hc)
    · exact .inr (.inr (hb c hc))
    · exact .inr (.inl hc)
    · exact .inr (.inr (ha c hc))
  · cases sgn with
    | true => exact hminus
    | false => exact Nat.eq_zero_of_le_zero (((List.tail_sublist _).count_le '-').trans hminus.le)
  · cases sgn <;> simp [text, signText, hkeep before hb, hkeep after ha]

end Sys2Proof.Machine

open Sys2Proof Sys2Proof.Machine

/-- Settles O22: label and correction by the range of the code and what the tables list for it. -/
theorem unitCorrectRow : Obligations.UnitCorrectRow := by
  intro s fc dpRaw hc
  obtain ⟨hi1, hi2, hcc, hdB, hp1, hp2⟩ := dpCorrection_of_configOk hc
  have hdp {kind : Correction} (h : correctionKind s.cfg fc = kind) :
      (correct s.cfg fc dpRaw).2 = applyCorrection kind dpRaw := congrArg (applyCorrection · dpRaw) h
  refine ⟨labelOf s.cfg fc, (correct s.cfg fc dpRaw).2, rfl, ?_, ?_, fun hge => ?_,
    fun l => fallbackLabel_of_listed s.cfg, fun h => ?_, fun h => ?_, fun h => ?_⟩
  · rintro rfl
    exact ⟨labelOf_known s.cfg, hdp (correctionKind_known s.cfg)⟩
  · intro hlt hne code
    have hcode : code = tableCode fc := (tableCode_eq_extract fc).symm
    have hlabel := labelOf_of_lt s.cfg hlt hne
    have hkind := correctionKind_of_lt s.cfg hlt hne
    rw [← hcode] at hlabel hkind
    refine ⟨fun l h => by rw [hlabel, h]; rfl, fun h => by rw [hlabel, h]; rfl, fun d h => ?_, fun c h => ?_,
      fun h => ?_⟩
    · exact (hdp hkind).trans (by rw [h]; rfl)
    · exact (hdp hkind).trans (by rw [h]; rfl)
    · exact (hdp hkind).trans (by rcases h with h | h <;> rw [h] <;> rfl)
  · exact ⟨labelOf_of_ge s.cfg hge, hdp (correctionKind_of_ge s.cfg hge)⟩
  · rcases h with h | h | h
    · exact hdp ((correctionKind_of_toNat_eq s.cfg h).trans hi1)
    · exact hdp ((correctionKind_of_toNat_eq s.cfg h).trans hi2)
    · exact hdp ((correctionKind_of_toNat_eq s.cfg h).trans hcc)
  · exact hdp ((correctionKind_of_toNat_eq s.cfg h).trans hdB)
  · rcases h with h | h
    · exact hdp ((correctionKind_of_toNat_eq s.cfg h).trans hp1)
    · exact hdp ((correctionKind_of_toNat_eq s.cfg h).trans hp2)

/-- Settles O23: a raw position is 0 to 7, and each of the four kinds keeps it in the range. -/
theorem correctedPositionRange : Obligations.CorrectedPositionRange := by
  intro s t fc dpRaw unit dpc hkind h ho
  cases h
  obtain ⟨-, rfl⟩ := Output.corrected.inj ho
  have hlt : dpRaw.toNat < 8 := dpRaw.isLt
  simp only [List.mem_cons, List.not_mem_nil, or_false] at hkind
  rcases hkind with hk | hk | hk | hk <;> simp only [correct, hk, applyCorrection] <;> omega

/-- Settles O24: the text is the sign and the digits with the point placed by the range of the position. -/
theorem formatRow : Obligations.FormatRow := by
  intro s d dp sgn ovl ds minus
  have hlen : ds.length = d.length := List.length_map ..
  refine ⟨fun x _ => chrDigit_of_le, formatValue d dp sgn ovl, rfl, ?_, ?_, ?_⟩
  · exact formatValue_eq_none_iff.2
  · rintro rfl hneg
    have habs : (-dp).toNat = dp.natAbs := by omega
    rw [formatValue_false, placePoint_neg hneg, habs]
    simp [minus, ds, signText, zeros]
  · rintro rfl h1 hn
    rw [← hlen] at hn
    refine ⟨ds.take (ds.length - dp.toNat), ds.drop (ds.length - dp.toNat), ?_, List.take_append_drop .., ?_⟩
    · rw [formatValue_false, placePoint_inside h1 hn]
      simp [minus, ds, signText]
    · rw [List.length_drop]
      omega

/-- Settles O25: the two positions outside 1 to n and not negative. -/
theorem formatAtTheEdges : Obligations.FormatAtTheEdges := by
  intro s d dp sgn ds minus
  have hlen : ds.length = d.length := List.length_map ..
  have htext {text : Text} (h : signText sgn ++ placePoint ds dp = text) :
      exec (.format d dp sgn false) s = .next { s with out := .formatted (some text) } := by rw [← h]; rfl
  refine ⟨?_, fun hn => htext ?_⟩
  · rintro rfl
    exact htext (by rw [placePoint_zero]; exact (List.append_assoc ..).symm)
  · have hz : dp.toNat - ds.length = (dp - d.length).toNat := by omega
    rw [placePoint_above (by omega), hz]
    simp [minus, signText, zeros]

/-- Settles O26: around the one point stand zeros and the digits, all of them decimal characters. -/
theorem formatTextShape : Obligations.FormatTextShape := by
  intro d sgn hd
  have hmap : d.map chrDigit = d.map fun x => Char.ofNat (48 + x.toNat) :=
    List.map_congr_left fun x hx => chrDigit_of_le (hd x hx)
  refine ⟨fun dp text h => ?_, fun j hj => ?_⟩
  · obtain ⟨before, after, z, hplace, hdigits⟩ := placePoint_split (d.map chrDigit) dp
    rw [formatValue_false, hplace] at h
    obtain rfl := Option.some.inj h
    obtain ⟨hpoint, hchars, hminus, hfilter⟩ :=
      text_shape sgn fun c hc => isDecimal_of_mem hd (hdigits ▸ hc : c ∈ zeros z ++ d.map chrDigit)
    exact ⟨hpoint, hchars, hminus, z, by rw [hfilter, hdigits, hmap]; rfl⟩
  · have hz : (- -(j : Int)).toNat = ((d.length : Int) + j).toNat - (d.map chrDigit).length := by
      rw [List.length_map]; omega
    rw [formatValue_false, formatValue_false, placePoint_neg (by omega), hz,
      placePoint_above (by rw [List.length_map]; omega)]
end

section
/-! Whole frames (spec/40_frame_decoder.md R122, R124): runs of Idle steps, put together from the rows, through the
status bytes and the digits of a frame. -/

namespace Sys2Proof.Machine

/-- The low n bits of a masked byte are the byte's own. -/
theorem extract_extract_six (b : Byte) {n : Nat} (hn : n ≤ 6) :
    (b.extractLsb' 0 6).extractLsb' 0 n = b.extractLsb' 0 n := by
  apply BitVec.eq_of_getLsbD_eq
  intro i hi
  simp only [BitVec.getLsbD_extractLsb', hi, Nat.zero_add, decide_true, Bool.true_and]
  simp only [Nat.lt_of_lt_of_le hi hn, decide_true, Bool.true_and]

/-- Bits 5:4 of a masked byte are the byte's own. -/
theorem extract_extract_class (b : Byte) : (b.extractLsb' 0 6).extractLsb' 4 2 = b.extractLsb' 4 2 := by
  revert b; decide

/-- Bit 3 of a masked byte is the byte's own. -/
theorem getLsbD_extract_three (b : Byte) : (b.extractLsb' 0 6).getLsbD 3 = b.getLsbD 3 := by
  simp

/-- From `s`, `n` steps lead to `t`, each of them to an Idle output. -/
def idleRun : Nat → State → State → Prop
  | 0, s, t => s = t
  | n + 1, s, t => ∃ u, step s = .next u ∧ u.out = .idle ∧ idleRun n u t

section
variable {m n : Nat} {s t u : State}

theorem run_succ_of_step (h : step s = .next t) :
    Host.Core.run Sys2Proof.core (n + 1) s = Host.Core.run Sys2Proof.core n t := by
  simp only [Host.Core.run, show Sys2Proof.core.step s = .next t from h]

theorem idleRun_one (h : step s = .next t) (ho : t.out = .idle) : idleRun 1 s t := ⟨t, h, ho, rfl⟩

theorem idleRun.trans (h : idleRun m s t) (h' : idleRun n t u) : idleRun (m + n) s u := by
  induction m generalizing s with
  | zero => rw [Nat.zero_add]; exact h ▸ h'
  | succ m ih =>
    obtain ⟨v, hv, ho, hrun⟩ := h
    rw [Nat.succ_add]
    exact ⟨v, hv, ho, ih hrun⟩

/-- After a run of Idle steps the machine goes on from the run's end. -/
theorem idleRun.run_add (h : idleRun m s t) (n : Nat) :
    Host.Core.run Sys2Proof.core (m + n) s = Host.Core.run Sys2Proof.core n t := by
  induction m generalizing s with
  | zero => rw [Nat.zero_add, show s = t from h]
  | succ m ih =>
    obtain ⟨v, hv, -, hrun⟩ := h
    rw [Nat.succ_add, run_succ_of_step hv, ih hrun]

/-- Each step within a run of Idle steps leads to Idle. -/
theorem idleRun.idle_at (h : idleRun n s t) (h1 : 1 ≤ m) (hm : m ≤ n) :
    ∃ u, Host.Core.run Sys2Proof.core m s = .next u ∧ u.out = .idle := by
  induction n generalizing s m with
  | zero => omega
  | succ n ih =>
    obtain ⟨v, hv, ho, hrun⟩ := h
    obtain ⟨m, rfl⟩ := Nat.exists_eq_add_of_le' h1
    cases m with
    | zero => exact ⟨v, run_succ_of_step hv, ho⟩
    | succ m =>
      rw [run_succ_of_step hv]
      exact ih hrun (by omega) (by omega)

/-- After a run of Idle steps, one more step. -/
theorem idleRun.run_succ (h : idleRun n s t) (hu : step t = .next u) :
    Host.Core.run Sys2Proof.core (n + 1) s = .next u := by
  rw [h.run_add 1, run_succ_of_step hu]
  rfl

end

/-- The four status bytes: their fields are captured and the digits of a slow frame come next (R106 to R109). -/
theorem statusBytes_idleRun {s : State} {fc sp1 sp2 rng : Byte} {rest : List Input} (hc : s.configOk)
    (hst : s.st = .statusBytes) (hk : s.k = 1) (hi : s.inputs = [fc, sp1, sp2, rng].map decoderByte ++ rest) :
    ∃ t, idleRun 4 s t ∧
      t = { s with inputs := rest, fclo := fc.extractLsb' 0 4, sp1 := sp1.extractLsb' 0 4,
                   sp2 := sp2.extractLsb' 0 4, rng := rng.extractLsb' 0 4, dp := rng.extractLsb' 0 3,
                   sgn := rng.getLsbD 3, ovl := false, st := .digitsSlow, k := 0, out := .idle } := by
  let u₁ : State := { s with inputs := [sp1, sp2, rng].map decoderByte ++ rest, fclo := fc.extractLsb' 0 4, k := 2,
                             out := .idle }
  let u₂ : State := { u₁ with inputs := [sp2, rng].map decoderByte ++ rest, sp1 := sp1.extractLsb' 0 4, k := 3 }
  let u₃ : State := { u₂ with inputs := [rng].map decoderByte ++ rest, sp2 := sp2.extractLsb' 0 4, k := 4 }
  have h₁ : step s = .next u₁ := by
    obtain ⟨h, e⟩ := (statusByteRows s fc _ hc hi hst).1 hk
    rw [h, e, extract_extract_six fc (by decide)]
    rfl
  have h₂ : step u₁ = .next u₂ := by
    obtain ⟨h, e⟩ := (statusByteRows u₁ sp1 _ hc rfl hst).2.1 rfl
    rw [h, e, extract_extract_six sp1 (by decide)]
    rfl
  have h₃ : step u₂ = .next u₃ := by
    obtain ⟨h, e⟩ := (statusByteRows u₂ sp2 _ hc rfl hst).2.2.1 rfl
    rw [h, e, extract_extract_six sp2 (by decide)]
    rfl
  refine ⟨_, ⟨u₁, h₁, rfl, u₂, h₂, rfl, u₃, h₃, rfl, idleRun_one ?_ rfl⟩, rfl⟩
  obtain ⟨h, e⟩ := (statusByteRows u₃ rng rest hc rfl hst).2.2.2 rfl
  rw [h, e, extract_extract_six rng (by decide), extract_extract_six rng (by decide), getLsbD_extract_three]

/-- The state after a digit that is not its frame's last: captured, and the next one awaited (R111, R112, R116). -/
def nextDigit (s : State) (j : Fin 6) (m : Logical) (rest : List Input) : State :=
  { s with inputs := rest, dig := s.dig.set j.val m, ovl := overloadAfter s.ovl m, k := s.k + 1, out := .idle }

/-- In phase `ph` the digits below `bound` are captured one by one. -/
def capturesBelow (ph : Phase) (bound : Nat) : Prop :=
  ∀ (s : State) (b : Byte) (rest : List Input) (j : Fin 6), s.configOk → s.inputs = decoderByte b :: rest → s.st = ph →
    ¬ startByte s.cfg.deviceCodes (b.extractLsb' 0 6) → s.k.toNat = j.val → j.val < bound →
    step s = .next (nextDigit s j (b.extractLsb' 0 6) rest)

/-- The first five digits of a slow frame, the lookahead byte among them (R111, R112). -/
theorem digitsSlow_capturesBelow : capturesBelow .digitsSlow 5 := by
  intro s b rest j hc hi hst hno hk hj
  obtain ⟨hlook, hslow⟩ := slowDigitRows s b rest hc hi hst hno
  rcases Nat.eq_zero_or_pos j.val with h0 | h1
  · obtain rfl : j = 0 := Fin.ext h0
    have hk0 : s.k = 0 := BitVec.eq_of_toNat_eq hk
    obtain ⟨h, e⟩ := hlook hk0
    rw [h, e, nextDigit, hk0]
    rfl
  · obtain ⟨h, e⟩ := hslow j h1 hk
    rw [h, e, if_neg (by omega)]
    rfl

/-- The first four digits of a fast frame (R116). -/
theorem digitsFast_capturesBelow : capturesBelow .digitsFast 4 := by
  intro s b rest j hc hi hst hno hk hj
  obtain ⟨h, e⟩ := (fastDigitRows s b rest hc hi hst hno).1 j (by omega) hk
  exact h.trans e

/-- The masked bytes, which are the digits (R51, D9). -/
def maskedBytes (bs : List Byte) : List Logical := bs.map fun b => b.extractLsb' 0 6

/-- A run of digits below the bound: the buffer takes them in order, and `ovl` takes in their overload. -/
theorem digits_idleRun {ph : Phase} {bound : Nat} (hcap : capturesBelow ph bound) (hbound : bound ≤ 6)
    {rest : List Input} (bs : List Byte) {s : State} (hc : s.configOk) (hst : s.st = ph) (ho : s.out = .idle)
    (hi : s.inputs = bs.map decoderByte ++ rest)
    (hno : ∀ b ∈ bs, ¬ startByte s.cfg.deviceCodes (b.extractLsb' 0 6)) (hk : s.k.toNat + bs.length ≤ bound) :
    ∃ (w : Vector Logical 6) (k : BitVec 3), k.toNat = s.k.toNat + bs.length ∧
      w.toList.take k.toNat = s.dig.toList.take s.k.toNat ++ maskedBytes bs ∧
      idleRun bs.length s { s with inputs := rest, dig := w, ovl := s.ovl || anyOverload (maskedBytes bs), k := k,
                                   out := .idle } := by
  induction bs generalizing s with
  | nil =>
    refine ⟨s.dig, s.k, rfl, (List.append_nil _).symm, ?_⟩
    have hrest : s.inputs = rest := hi
    have hovl : (s.ovl || anyOverload (maskedBytes [])) = s.ovl := Bool.or_false _
    rw [hovl, ← hrest, ← ho]
    rfl
  | cons b bs ih =>
    rw [List.length_cons] at hk ⊢
    have hk6 : s.k.toNat < 6 := by omega
    let u := nextDigit s ⟨s.k.toNat, hk6⟩ (b.extractLsb' 0 6) (bs.map decoderByte ++ rest)
    have hstep : step s = .next u :=
      hcap s b _ ⟨s.k.toNat, hk6⟩ hc hi hst (hno b List.mem_cons_self) rfl (by simp only; omega)
    have huk : u.k.toNat = s.k.toNat + 1 := by
      rw [show u.k = s.k + 1 from rfl, BitVec.toNat_add]
      simp
      omega
    have hudig : u.dig.toList.take u.k.toNat = s.dig.toList.take s.k.toNat ++ [b.extractLsb' 0 6] := by
      rw [huk]
      exact take_succ_set s.dig s.k.toNat hk6 _
    obtain ⟨w, k, hwk, hw, hrun⟩ :=
      ih (s := u) hc hst rfl rfl (fun b' hb' => hno b' (List.mem_cons_of_mem _ hb')) (by omega)
    have hovl : (u.ovl || anyOverload (maskedBytes bs)) = (s.ovl || anyOverload (maskedBytes (b :: bs))) :=
      Bool.or_assoc ..
    rw [hovl] at hrun
    refine ⟨w, k, by omega, ?_, u, hstep, rfl, hrun⟩
    rw [hw, hudig, List.append_assoc]
    rfl

/-- The bytes of a vector are those of its elements by index. -/
theorem forall_mem_toList {n : Nat} {v : Vector Byte n} (P : Byte → Prop) (h : ∀ i : Fin n, P v[i]) :
    ∀ b ∈ v.toList, P b := by
  intro b hb
  obtain ⟨i, hi, rfl⟩ := List.getElem_of_mem hb
  exact h ⟨i, by simpa using hi⟩

/-- A vector's elements are all but the last, and the last. -/
theorem toList_eq_take_append {n : Nat} (v : Vector Byte (n + 1)) : v.toList = v.toList.take n ++ [v[n]] := by
  rw [← Vector.getElem_toList (by simp), ← List.take_succ_eq_append_getElem]
  exact (List.take_of_length_le (by simp)).symm

/-- The digits of a frame but its last, from its first digit on. -/
theorem initialDigits_idleRun {n : Nat} {ph : Phase} (hcap : capturesBelow ph n) (hn : n ≤ 6) {s : State}
    {d : Vector Byte (n + 1)} {rest : List Input} (hc : s.configOk) (hst : s.st = ph) (hk : s.k = 0)
    (ho : s.out = .idle) (hi : s.inputs = d.toList.map decoderByte ++ rest)
    (hno : ∀ i : Fin (n + 1), ¬ startByte s.cfg.deviceCodes (d[i].extractLsb' 0 6)) :
    ∃ (w : Vector Logical 6) (k : BitVec 3) (t : State), k.toNat = n ∧
      w.toList.take n = maskedBytes (d.toList.take n) ∧ idleRun n s t ∧
      t = { s with inputs := decoderByte d[n] :: rest, dig := w,
                   ovl := s.ovl || anyOverload (maskedBytes (d.toList.take n)), k := k, out := .idle } := by
  have hlen : (d.toList.take n).length = n := by simp
  have hk0 : s.k.toNat = 0 := by rw [hk]; rfl
  have hi' : s.inputs = (d.toList.take n).map decoderByte ++ (decoderByte d[n] :: rest) := by
    rw [hi, toList_eq_take_append d]
    simp
  have hno' := forall_mem_toList (fun b => ¬ startByte s.cfg.deviceCodes (b.extractLsb' 0 6)) hno
  obtain ⟨w, k, hwk, hw, hrun⟩ := digits_idleRun hcap hn (d.toList.take n) hc hst ho hi'
    (fun b hb => hno' b (List.mem_of_mem_take hb)) (by omega)
  rw [hk0, hlen, Nat.zero_add] at hwk
  rw [hwk, hk0] at hw
  rw [hlen] at hrun
  exact ⟨w, k, _, hwk, hw, hrun, rfl⟩

/-- The digits of a frame are all but the last, and the last. -/
theorem maskedBytes_toList {n : Nat} (d : Vector Byte (n + 1)) :
    maskedBytes d.toList = maskedBytes (d.toList.take n) ++ [d[n].extractLsb' 0 6] := by
  conv_lhs => rw [toList_eq_take_append d, maskedBytes, List.map_append]
  rfl

/-- The overload of a frame's digits is that of all but the last, taken in the last. -/
theorem anyOverload_maskedBytes {n : Nat} (d : Vector Byte (n + 1)) :
    anyOverload (maskedBytes d.toList) =
      overloadAfter (anyOverload (maskedBytes (d.toList.take n))) (d[n].extractLsb' 0 6) := by
  rw [maskedBytes_toList, anyOverload_append]

/-- The six digits of a slow frame: all captured, and the trailing fields awaited (R111, R112). -/
theorem slowDigits_idleRun {s : State} {d : Vector Byte 6} {rest : List Input} (hc : s.configOk)
    (hst : s.st = .digitsSlow) (hk : s.k = 0) (ho : s.out = .idle) (hovl : s.ovl = false)
    (hi : s.inputs = d.toList.map decoderByte ++ rest)
    (hno : ∀ i : Fin 6, ¬ startByte s.cfg.deviceCodes (d[i].extractLsb' 0 6)) :
    ∃ (w : Vector Logical 6) (t : State), w.toList = maskedBytes d.toList ∧ idleRun 6 s t ∧
      t = { s with inputs := rest, dig := w, ovl := anyOverload (maskedBytes d.toList), st := .trailingFields,
                   k := 0, out := .idle } := by
  obtain ⟨w, k, u, hk5, hw, hrun, hu⟩ :=
    initialDigits_idleRun digitsSlow_capturesBelow (by decide) hc hst hk ho hi hno
  rw [hovl, Bool.false_or] at hu
  refine ⟨w.set 5 (d[5].extractLsb' 0 6), _, ?_, hrun.trans (idleRun_one ?_ rfl), rfl⟩
  · have hall := take_succ_set w 5 (by decide) (d[5].extractLsb' 0 6)
    rw [List.take_of_length_le (by simp)] at hall
    rw [hall, hw, maskedBytes_toList]
  · rw [anyOverload_maskedBytes]
    obtain ⟨h, e⟩ := (slowDigitRows u d[5] rest (by rw [hu]; exact hc) (by rw [hu]) (by rw [hu, hst])
      (by rw [hu]; exact hno 5)).2 5 (by decide) (by rw [hu]; exact hk5)
    refine h.trans (e.trans ((if_pos rfl).trans ?_))
    rw [hu]
    rfl

/-- The two trailing bytes: the second completes the slow frame in the registers (R114, R115). -/
theorem trailing_run {s : State} {fchi rate : Byte} {rest : List Input} (hc : s.configOk) (hst : s.st = .trailingFields)
    (hk : s.k = 0) (hi : s.inputs = [fchi, rate].map decoderByte ++ rest) :
    ∃ u t, idleRun 1 s u ∧ step u = .next t ∧
      t = { s with inputs := rest, fchi := fchi.extractLsb' 0 4, lkFclo := some s.fclo,
                   lkFchi := some (fchi.extractLsb' 0 4), lkSpecial := some (s.sp1 ++ s.sp2),
                   lkRate := some (rate.extractLsb' 0 6), st := .awaitStart, k := 0,
                   out := .measurement (assembleSlow s.cfg s.dig.toList s.dp s.sgn s.ovl s.fclo
                     (fchi.extractLsb' 0 4) s.sp1 s.sp2 (rate.extractLsb' 0 6)) } := by
  let u : State := { s with inputs := [rate].map decoderByte ++ rest, fchi := fchi.extractLsb' 0 4, k := 1,
                            out := .idle }
  have hu : step s = .next u := by
    obtain ⟨h, e⟩ := (trailingRows s fchi _ hc hi hst).1 hk
    rw [h, e, extract_extract_six fchi (by decide)]
    rfl
  obtain ⟨h, e⟩ := (trailingRows u rate rest hc rfl hst).2 rfl
  exact ⟨u, _, idleRun_one hu rfl, h.trans e, rfl⟩

end Sys2Proof.Machine

open Sys2Proof Sys2Proof.Machine

/-- Settles O48: the frame start, the status bytes, the digits and the first trailing byte are one run of twelve Idle
steps; the last byte completes the frame. -/
theorem slowFrameRefinesItsBytes : Obligations.SlowFrameRefinesItsBytes := by
  intro s dev fc sp1 sp2 rng fchi rate d rest hc hst hk hi hdev hno digits overloaded
  have hi' : s.inputs = decoderByte dev :: ([fc, sp1, sp2, rng].map decoderByte ++
      (d.toList.map decoderByte ++ ([fchi, rate].map decoderByte ++ rest))) := by rw [hi]; simp
  obtain ⟨h, e⟩ := (frameStartRows s dev _ hc hi' hst hk).1 hdev
  obtain ⟨t₀, hstart, ht₀⟩ : ∃ t, step s = .next t ∧ t = _ := ⟨_, h.trans e, rfl⟩
  obtain ⟨t₁, hstatus, ht₁⟩ := statusBytes_idleRun (s := t₀) (fc := fc) (sp1 := sp1) (sp2 := sp2) (rng := rng)
    (by rw [ht₀]; exact hc) (by rw [ht₀]) (by rw [ht₀]) (by rw [ht₀])
  rw [ht₀] at ht₁
  obtain ⟨w, t₂, hw, hdigits, ht₂⟩ := slowDigits_idleRun (s := t₁) (d := d)
    (by rw [ht₁]; exact hc) (by rw [ht₁]) (by rw [ht₁]) (by rw [ht₁]) (by rw [ht₁]) (by rw [ht₁])
    (by rw [ht₁]; exact hno)
  rw [ht₁] at ht₂
  obtain ⟨t₃, t₄, htrail, hlast, ht₄⟩ := trailing_run (s := t₂) (fchi := fchi) (rate := rate)
    (by rw [ht₂]; exact hc) (by rw [ht₂]) (by rw [ht₂]) (by rw [ht₂])
  have hrun : idleRun 12 s t₃ :=
    (((idleRun_one hstart (by rw [ht₀])).trans hstatus).trans hdigits).trans htrail
  refine ⟨fun n h1 h12 => hrun.idle_at h1 h12, t₄, hrun.run_succ hlast, ?_⟩
  rw [ht₂] at ht₄
  rw [ht₄]
  refine ⟨rfl, rfl, rfl, rfl, rfl, rfl, rfl, rfl, rfl, rfl, rfl, ?_⟩
  simp only [hw]
  rfl

/-- Settles O49: the candidate and the first four digits are one run of five Idle steps; the fifth digit completes the
frame. -/
theorem fastFrameRefinesItsBytes : Obligations.FastFrameRefinesItsBytes := by
  intro s c d rest hc hst hk hi hfast hno digits overloaded
  have hi' : s.inputs = decoderByte c :: (d.toList.map decoderByte ++ rest) := by rw [hi]; simp
  obtain ⟨h, e⟩ := (frameStartRows s c _ hc hi' hst hk).2.1 (by rw [extract_extract_class]; exact hfast)
  rw [extract_extract_six c (by decide), getLsbD_extract_three] at h e
  obtain ⟨t₀, hstart, ht₀⟩ : ∃ t, step s = .next t ∧ t = _ := ⟨_, h.trans e, rfl⟩
  obtain ⟨w, k, t₁, hk₁, hw, hdigits, ht₁⟩ := initialDigits_idleRun (s := t₀) (d := d) (rest := rest)
    digitsFast_capturesBelow (by decide) (by rw [ht₀]; exact hc) (by rw [ht₀]) (by rw [ht₀]) (by rw [ht₀])
    (by rw [ht₀]) (by rw [ht₀]; exact hno)
  rw [ht₀] at ht₁
  have hrun : idleRun 5 s t₁ := (idleRun_one hstart (by rw [ht₀])).trans hdigits
  have hk4 : t₁.k = 4 := by rw [ht₁]; exact BitVec.eq_of_toNat_eq hk₁
  obtain ⟨h', e'⟩ := (fastDigitRows t₁ d[4] rest (by rw [ht₁]; exact hc) (by rw [ht₁]) (by rw [ht₁])
    (by rw [ht₁]; exact hno 4)).2 hk4
  have hfour : [t₁.dig[0], t₁.dig[1], t₁.dig[2], t₁.dig[3], d[4].extractLsb' 0 6] = digits := by
    have hd : digits = maskedBytes (d.toList.take 4) ++ [d[4].extractLsb' 0 6] := maskedBytes_toList d
    have hdig : t₁.dig.toList.take 4 = maskedBytes (d.toList.take 4) := by rw [ht₁]; exact hw
    rw [hd, ← hdig, take_four_toList]
    rfl
  have hover : (t₁.ovl || decide (10 ≤ (d[4].extractLsb' 0 6).toNat)) = overloaded := by
    have ho : overloaded = overloadAfter (anyOverload (maskedBytes (d.toList.take 4))) (d[4].extractLsb' 0 6) :=
      anyOverload_maskedBytes d
    rw [ho, ht₁]
    rfl
  rw [hfour, hover] at e'
  refine ⟨fun n h1 h5 => hrun.idle_at h1 h5, _, hrun.run_succ (h'.trans e'), ?_⟩
  rw [ht₁]
  exact ⟨rfl, rfl, rfl, rfl, rfl, rfl, rfl, ⟨rfl, rfl, rfl, rfl⟩, rfl⟩

/-- Settles O50: the device code ends one setting block and begins the next, whose status bytes lead to the lookahead
again. -/
theorem settingBlocksMayRepeat : Obligations.SettingBlocksMayRepeat := by
  intro s dev fc sp1 sp2 rng rest hc hst hk hi hdev
  obtain ⟨h, e⟩ := (lookaheadEndsSettingBlock s dev ([fc, sp1, sp2, rng].map decoderByte ++ rest) hc hi hst hk).1 hdev
  obtain ⟨t₀, hstart, ht₀⟩ : ∃ t, step s = .next t ∧ t = _ := ⟨_, h.trans e, rfl⟩
  obtain ⟨t₁, hstatus, ht₁⟩ := statusBytes_idleRun (s := t₀) (fc := fc) (sp1 := sp1) (sp2 := sp2) (rng := rng)
    (by rw [ht₀]; exact hc) (by rw [ht₀]) (by rw [ht₀]) (by rw [ht₀])
  refine ⟨⟨t₀, hstart, _, by rw [ht₀]⟩, t₁, (run_succ_of_step hstart).trans (hstatus.run_add 0), ?_⟩
  rw [ht₁, ht₀]
  exact ⟨rfl, rfl, rfl, rfl, rfl, rfl⟩
end
